-- ==== Sys2Proof/Word.lean ====
section
/-! DEFINITION. The word types of the block and their plainest arithmetic (00_scope.md R5: little-endian bit numbering, every
value unsigned). -/

namespace Sys2Proof

/-- An interface register: 64 bits (10_state.md R11, R12, R14). -/
abbrev Word := BitVec 64

/-- One byte of a register image (20_memory.md R42). -/
abbrev Byte := BitVec 8

/-- A command word: 32 bits (30_encoding.md R48). -/
abbrev CmdWord := BitVec 32

/-- `zext_64(v)` of 00_scope.md R5. -/
abbrev zext64 {w : Nat} (v : BitVec w) : Word := v.setWidth 64

end Sys2Proof
end

