-- ==== Sys2Proof/Syntax.lean ====
section
/-! DEFINITION. The commands of the block, one constructor per row of spec/opcode_table.json (30_encoding.md R50). No command
carries an operand in its word: operands are taken from `ARG[0..3]` (R48, R51), so no constructor has an argument. -/

namespace Sys2Proof

/-- The 17 commands of 30_encoding.md R50, in the table's order. -/
inductive Instr where
  /-- 0x01 INIT, 41_clock_source.md R75. -/
  | init
  /-- 0x02 APPLY_DEFAULT_CLK, 41_clock_source.md R74. -/
  | applyDefaultClk
  /-- 0x03 GET_XTAL_FREQ, 41_clock_source.md R71. -/
  | getXtalFreq
  /-- 0x04 GET_SLOW_SRC, 41_clock_source.md R72. -/
  | getSlowSrc
  /-- 0x05 SET_SLOW_SRC, 41_clock_source.md R73. -/
  | setSlowSrc
  /-- 0x06 GET_RTC_COUNTER, 41_clock_source.md R76. -/
  | getRtcCounter
  /-- 0x10 US_TO_CYCLES, 40_time_converter.md R65. -/
  | usToCycles
  /-- 0x11 CYCLES_TO_US, 40_time_converter.md R66. -/
  | cyclesToUs
  /-- 0x20 CALIBRATE, 42_frequency_calibrator.md R78. -/
  | calibrate
  /-- 0x30 SET_CPU_CFG, 43_cpu_frequency_switcher.md R88. -/
  | setCpuCfg
  /-- 0x31 GET_CPU_CFG, 43_cpu_frequency_switcher.md R91. -/
  | getCpuCfg
  /-- 0x32 SWITCH_TO_XTAL, 43_cpu_frequency_switcher.md R92. -/
  | switchToXtal
  /-- 0x40 PREPARE_SLEEP, 44_sleep_orchestrator.md R98. -/
  | prepareSleep
  /-- 0x41 SET_WAKEUP_TIME, 44_sleep_orchestrator.md R99. -/
  | setWakeupTime
  /-- 0x42 ENTER_LIGHT_SLEEP, 44_sleep_orchestrator.md R102. -/
  | enterLightSleep
  /-- 0x43 ENTER_DEEP_SLEEP, 44_sleep_orchestrator.md R105. -/
  | enterDeepSleep
  /-- 0x44 POST_WAKE_INIT, 44_sleep_orchestrator.md R107. -/
  | postWakeInit
  deriving DecidableEq, Repr, Inhabited

end Sys2Proof
end

