-- ==== Sys2Proof/WellFormed.lean ====
section
/-! DEFINITION. Well-formedness. A command word is well formed when its reserved bits are 0 and its opcode is one of the opcode map's
(30_encoding.md R48, R50, R60). A command as syntax has no field (R48), so every term of `Instr` is well formed; the checks that a
command's operands must pass are on `ARG`, not on the word, and stand in Machine/Operands.lean. -/

namespace Sys2Proof

/-- `RSVD`, bits 31:8, is 0 (30_encoding.md R48). -/
def CmdWord.reservedZero (w : CmdWord) : Bool :=
  w.extractLsb 31 8 == 0

/-- `OP`, bits 7:0, is in none of the illegal ranges of 30_encoding.md R60 (0x00, 0x07 to 0x0F, 0x12 to 0x1F, 0x21 to 0x2F,
0x33 to 0x3F, 0x45 to 0xFF). -/
def CmdWord.opcodeLegal (w : CmdWord) : Bool :=
  let op := (w.extractLsb 7 0).toNat
  !(op == 0 || (0x07 ≤ op && op ≤ 0x0F) || (0x12 ≤ op && op ≤ 0x1F) || (0x21 ≤ op && op ≤ 0x2F)
    || (0x33 ≤ op && op ≤ 0x3F) || 0x45 ≤ op)

/-- A legal command word (30_encoding.md R60): no reserved bit set, and an opcode outside the illegal ranges. -/
def CmdWord.wellFormed (w : CmdWord) : Bool :=
  CmdWord.reservedZero w && CmdWord.opcodeLegal w

/-- Every command term is well formed: the format has no operand field (30_encoding.md R48). -/
def Instr.wellFormed : Instr → Bool
  | .init => true
  | .applyDefaultClk => true
  | .getXtalFreq => true
  | .getSlowSrc => true
  | .setSlowSrc => true
  | .getRtcCounter => true
  | .usToCycles => true
  | .cyclesToUs => true
  | .calibrate => true
  | .setCpuCfg => true
  | .getCpuCfg => true
  | .switchToXtal => true
  | .prepareSleep => true
  | .setWakeupTime => true
  | .enterLightSleep => true
  | .enterDeepSleep => true
  | .postWakeInit => true

end Sys2Proof
end

