-- ==== Sys2Proof/Decode.lean ====
section
/-! DEFINITION. Decoding of a `CMD` write, total on any bytes and rejecting by name (20_memory.md R42, R43; 30_encoding.md R48 to R50,
R60, R61), and after it the encoder, written from the same opcode map. -/

namespace Sys2Proof

/-- Why the decoder refuses. The first three raise ILLEGAL_COMMAND, in this order (60_exceptions.md R114.3). -/
inductive DecodeError where
  /-- Not exactly the 8 bytes of one register (20_memory.md R41). -/
  | wrongLength
  /-- `v[63:32] ≠ 0` (20_memory.md R43). -/
  | highWord
  /-- `RSVD`, bits 31:8, is not 0 (30_encoding.md R49). -/
  | reserved
  /-- `OP` is not in the opcode map (30_encoding.md R49, R60). -/
  | opcode
  deriving DecidableEq, Repr

/-- The opcode map of 30_encoding.md R50. -/
def opcodeMap : List (Byte × Instr) :=
  [(0x01#8, .init), (0x02#8, .applyDefaultClk), (0x03#8, .getXtalFreq), (0x04#8, .getSlowSrc),
   (0x05#8, .setSlowSrc), (0x06#8, .getRtcCounter), (0x10#8, .usToCycles), (0x11#8, .cyclesToUs),
   (0x20#8, .calibrate), (0x30#8, .setCpuCfg), (0x31#8, .getCpuCfg), (0x32#8, .switchToXtal),
   (0x40#8, .prepareSleep), (0x41#8, .setWakeupTime), (0x42#8, .enterLightSleep), (0x43#8, .enterDeepSleep),
   (0x44#8, .postWakeInit)]

/-- The first row of `map` whose opcode is `op`. -/
def lookupOpcode (op : Byte) : List (Byte × Instr) → Option Instr
  | [] => none
  | (o, i) :: rest => if op = o then some i else lookupOpcode op rest

/-- Decoding of a 32-bit command word (30_encoding.md R49): `RSVD` first, then `OP`. It depends on the word alone. -/
def decodeWord (w : CmdWord) : Except DecodeError Instr :=
  if w.extractLsb 31 8 ≠ 0 then .error .reserved
  else match lookupOpcode (w.extractLsb 7 0) opcodeMap with
    | some i => .ok i
    | none => .error .opcode

/-- Decoding of the value of a `CMD` write (20_memory.md R43, 30_encoding.md R61): the upper half must be 0, and the command word is
the lower half. -/
def decodeValue (v : Word) : Except DecodeError Instr :=
  if v.extractLsb 63 32 ≠ 0 then .error .highWord
  else decodeWord (v.extractLsb 31 0)

/-- The value of a register image: byte `i` is bits `[8i+7:8i]` (20_memory.md R42). -/
def wordOfBytes : List Byte → Word
  | [] => 0
  | b :: rest => b.setWidth 64 ||| (wordOfBytes rest <<< 8)

/-- Decoding of the bytes of a `CMD` write: exactly the 8 bytes of the register (20_memory.md R41), little-endian. -/
def decodeBytes (bs : List Byte) : Except DecodeError Instr :=
  if bs.length = 8 then decodeValue (wordOfBytes bs) else .error .wrongLength

/-- The byte image of a register, lowest address first: its `n` low bytes (20_memory.md R42). -/
def bytesOfNat : Nat → Nat → List Byte
  | 0, _ => []
  | n + 1, w => BitVec.ofNat 8 w :: bytesOfNat n (w / 256)

/-- The `CMD` value whose low `nbits` bits are `w` and whose other bits are 0. -/
def cmdValueOf (nbits w : Nat) : Word :=
  BitVec.ofNat 64 (w % 2 ^ nbits)

/-- What the decoder reads from an instruction whose `nbits` table bits are `w`: the command word is laid out as the 8 bytes of
the `CMD` register, little-endian, every bit above `nbits` 0. -/
def decodeTableWord (nbits w : Nat) : Option Instr :=
  match decodeBytes (bytesOfNat 8 (cmdValueOf nbits w).toNat) with
  | .ok i => some i
  | .error _ => none

/-- The opcode of a command (30_encoding.md R50). -/
def Instr.opcode : Instr → Byte
  | .init => 0x01#8
  | .applyDefaultClk => 0x02#8
  | .getXtalFreq => 0x03#8
  | .getSlowSrc => 0x04#8
  | .setSlowSrc => 0x05#8
  | .getRtcCounter => 0x06#8
  | .usToCycles => 0x10#8
  | .cyclesToUs => 0x11#8
  | .calibrate => 0x20#8
  | .setCpuCfg => 0x30#8
  | .getCpuCfg => 0x31#8
  | .switchToXtal => 0x32#8
  | .prepareSleep => 0x40#8
  | .setWakeupTime => 0x41#8
  | .enterLightSleep => 0x42#8
  | .enterDeepSleep => 0x43#8
  | .postWakeInit => 0x44#8

/-- The command word of a command: `OP` in bits 7:0, `RSVD` 0 (30_encoding.md R48). -/
def encode (i : Instr) : CmdWord :=
  0#24 ++ i.opcode

/-- The value a host writes to `CMD` to issue a command: `zext_64(OP)` (30_encoding.md R62). -/
def encodeValue (i : Instr) : Word :=
  zext64 (encode i)

/-- The register image of `encodeValue`, lowest address first. -/
def encodeBytes (i : Instr) : List Byte :=
  bytesOfNat 8 (encodeValue i).toNat

end Sys2Proof
end

