-- ==== Sys2Proof/Machine/Codes.lean ====
section
/-! DEFINITION. The closed enumerations of the spec with their numeric codes (30_encoding.md R53 to R57; 10_state.md R18, R19;
60_exceptions.md R111), the CPU configuration record (10_state.md R23) and the agents of the step relation (00_scope.md R7). -/

namespace Sys2Proof.Machine

/-- Slow clock sources (30_encoding.md R54). Code 3 is illegal and never occurs (10_state.md R20), so it has no constructor. -/
inductive SlowSrc where
  /-- 0, the internal RC oscillator -/
  | rc
  /-- 1, the external crystal -/
  | xtal32k
  /-- 2, internal RC/256 -/
  | rcD256
  deriving DecidableEq, Repr, Inhabited

/-- The code of a slow clock source (30_encoding.md R54). -/
def SlowSrc.code : SlowSrc → BitVec 2
  | .rc => 0
  | .xtal32k => 1
  | .rcD256 => 2

/-- The slow clock source of a code: code 3 names none (30_encoding.md R54). -/
def SlowSrc.ofCode (c : BitVec 2) : Option SlowSrc :=
  if c = 0 then some .rc else if c = 1 then some .xtal32k else if c = 2 then some .rcD256 else none

/-- Calibration targets (30_encoding.md R55). -/
inductive CalTarget where
  /-- 0, the slow clock selected by `SLOW_CLK_SEL` -/
  | rtcMux
  /-- 1, the internal RC oscillator -/
  | rc
  /-- 2, the external crystal -/
  | xtal32k
  /-- 3, internal RC/256 -/
  | rcD256
  deriving DecidableEq, Repr, Inhabited

/-- The code of a calibration target (30_encoding.md R55). -/
def CalTarget.code : CalTarget → BitVec 2
  | .rtcMux => 0
  | .rc => 1
  | .xtal32k => 2
  | .rcD256 => 3

/-- The calibration target of a code; all four are legal (30_encoding.md R55). -/
def CalTarget.ofCode (c : BitVec 2) : CalTarget :=
  if c = 0 then .rtcMux else if c = 1 then .rc else if c = 2 then .xtal32k else .rcD256

/-- CPU clock sources (30_encoding.md R56). -/
inductive CpuSrc where
  /-- 0, the crystal -/
  | xtal
  /-- 1, the PLL -/
  | pll
  /-- 2, the internal 8 MHz oscillator -/
  | rc8m
  /-- 3, the audio PLL -/
  | apll
  deriving DecidableEq, Repr, Inhabited

/-- The code of a CPU clock source (30_encoding.md R56). -/
def CpuSrc.code : CpuSrc → BitVec 2
  | .xtal => 0
  | .pll => 1
  | .rc8m => 2
  | .apll => 3

/-- The CPU clock source of a code; all four are legal (30_encoding.md R56). -/
def CpuSrc.ofCode (c : BitVec 2) : CpuSrc :=
  if c = 0 then .xtal else if c = 1 then .pll else if c = 2 then .rc8m else .apll

/-- The two PLLs (10_state.md R25). -/
inductive Pll where
  /-- the PLL -/
  | pll
  /-- the audio PLL -/
  | apll
  deriving DecidableEq, Repr, Inhabited

/-- The PLL a CPU clock source needs, if it requires warm-up: `pll(1)` = PLL, `pll(3)` = APLL
(43_cpu_frequency_switcher.md R87). -/
def CpuSrc.pll? : CpuSrc → Option Pll
  | .xtal => none
  | .pll => some .pll
  | .rc8m => none
  | .apll => some .apll

/-- The main crystal: 32 or 40 MHz (10_state.md R21, 90_conflicts.md C4). -/
inductive Crystal where
  /-- 32 MHz -/
  | mhz32
  /-- 40 MHz -/
  | mhz40
  deriving DecidableEq, Repr, Inhabited

/-- The crystal frequency in MHz. DEDUCED: 32 bits wide, because R92 stores it in the 32-bit fields of `ACTIVE_CFG` (log 15). -/
def Crystal.mhz : Crystal → BitVec 32
  | .mhz32 => 32
  | .mhz40 => 40

/-- The sequencer's position inside the command in progress (10_state.md R18). -/
inductive Phase where
  | idle
  | settling
  | calibrating
  | pllWait
  | lightSleep
  | waking
  | deepSleep
  | faulted
  deriving DecidableEq, Repr, Inhabited

/-- The code of a phase in `STATUS[11:8]` (10_state.md R18). -/
def Phase.code : Phase → BitVec 4
  | .idle => 0
  | .settling => 1
  | .calibrating => 2
  | .pllWait => 3
  | .lightSleep => 4
  | .waking => 5
  | .deepSleep => 6
  | .faulted => 7

/-- The power state (10_state.md R19). -/
inductive SleepState where
  | awake
  | preparing
  | lightSleeping
  | deepSleepPending
  | waking
  deriving DecidableEq, Repr, Inhabited

/-- The code of a power state in `STATUS[6:4]` (10_state.md R19). -/
def SleepState.code : SleepState → BitVec 3
  | .awake => 0
  | .preparing => 1
  | .lightSleeping => 2
  | .deepSleepPending => 3
  | .waking => 4

/-- The fault causes (60_exceptions.md R111). -/
inductive FaultCode where
  | illegalCommand
  | illegalOperand
  | divideByZero
  | invalidFrequencyConfig
  | sequenceError
  | busy
  | wakeupTimeUnset
  | initRepeated
  deriving DecidableEq, Repr, Inhabited

/-- The code a fault writes into `STATUS.CAUSE` (60_exceptions.md R111). -/
def FaultCode.code : FaultCode → BitVec 8
  | .illegalCommand => 1
  | .illegalOperand => 2
  | .divideByZero => 3
  | .invalidFrequencyConfig => 4
  | .sequenceError => 5
  | .busy => 6
  | .wakeupTimeUnset => 7
  | .initRepeated => 8

/-- The bits of SleepPowerFlags (30_encoding.md R57). -/
abbrev PowerFlags := BitVec 10

/-- Bit 0, `PD_DIG`: the digital domain (30_encoding.md R57). -/
def pdDig : PowerFlags := 0x001

/-- Bit 2, `PD_RTC_SLOW_MEM` (30_encoding.md R57). -/
def pdRtcSlowMem : PowerFlags := 0x004

/-- Bit 3, `PD_RTC_FAST_MEM` (30_encoding.md R57). -/
def pdRtcFastMem : PowerFlags := 0x008

/-- Bit 4, `PD_RTC_MEM_FOLLOW_CPU`, a policy and not a domain (30_encoding.md R57). -/
def pdFollowCpu : PowerFlags := 0x010

/-- Bit 8, `PD_CPU` (30_encoding.md R57). -/
def pdCpu : PowerFlags := 0x100

/-- Bit 3 of a wakeup mask, `TIMER_WAKEUP` (30_encoding.md R58). -/
def timerWakeup : BitVec 32 := 0x00000008

/-- A CpuFrequencyConfig (10_state.md R23): source, source frequency, divider, resulting frequency. -/
structure CpuCfg where
  src : CpuSrc
  srcMhz : BitVec 32
  div : BitVec 32
  resMhz : BitVec 32
  deriving DecidableEq, Repr, Inhabited

/-- The agents of the step relation (00_scope.md R7). -/
inductive Agent where
  /-- the CPU running the caller's software: its next access to the window -/
  | host
  /-- the block: the step that ends a hold -/
  | sequencer
  /-- one tick of the selected slow clock -/
  | slowClock
  /-- one tick of the calibration reference clock -/
  | refClock
  /-- one tick of the clock being calibrated -/
  | targetClock
  /-- the end of a slow-clock settling delay -/
  | settle
  /-- the lock signal of a PLL rising -/
  | pllLock (k : Pll)
  /-- a change of the input vectors `WAKE_COND` and `REJECT_COND` -/
  | conditions (wake reject : BitVec 32)
  deriving DecidableEq, Repr, Inhabited

end Sys2Proof.Machine
end

