-- ==== Sys2Proof/Config.lean ====
section
/-! DEFINITION. What an implementation fixes (00_scope.md R4) and the free values. Every `opaque` constant here has no body: nothing
can be proved about its value. Where R4 bounds a parameter, the parameter is a definition that maps the raw constant onto exactly
the values R4 allows (log 14). -/

namespace Sys2Proof.Config

open Sys2Proof.Machine

/-- `XTAL_MHZ` ∈ {32, 40}, board-fixed (00_scope.md R4). -/
opaque xtal : Crystal

/-- `BASE`, the bus address of the register window (00_scope.md R4). -/
opaque base : Nat

/-- The raw value behind `cpuDivMax`. -/
opaque cpuDivMaxRaw : BitVec 32

/-- `CPU_DIV_MAX`, an integer from 1 to 2^32 - 1 (00_scope.md R4). -/
def cpuDivMax : BitVec 32 := if cpuDivMaxRaw = 0 then 1 else cpuDivMaxRaw

/-- The raw value behind `calMaxCycles`. -/
opaque calMaxCyclesRaw : BitVec 32

/-- `CAL_MAX_CYCLES`, an integer from 1 to 2^32 - 1 (00_scope.md R4). -/
def calMaxCycles : BitVec 32 := if calMaxCyclesRaw = 0 then 1 else calMaxCyclesRaw

/-- The raw value behind `calTimeout`. -/
opaque calTimeoutRaw : BitVec 32 → BitVec 64

/-- `CalTimeout(N)`, with `N ≤ CalTimeout(N) < 2^64` (00_scope.md R4). -/
def calTimeout (n : BitVec 32) : BitVec 64 :=
  if zext64 n ≤ calTimeoutRaw n then calTimeoutRaw n else zext64 n

/-- The raw value behind `defaultPeriod`. -/
opaque defaultPeriodRaw : BitVec 32

/-- `DEFAULT_PERIOD`, a non-zero Q13.19 period (00_scope.md R4). -/
def defaultPeriod : BitVec 32 := if defaultPeriodRaw = 0 then 1 else defaultPeriodRaw

/-- `BufWaitUs(f)`, from resolved power flags to microseconds (00_scope.md R4). -/
opaque bufWaitUs : PowerFlags → Word

/-- `WakeupDelayUs(f)`, from resolved power flags to microseconds (00_scope.md R4). -/
opaque wakeupDelayUs : PowerFlags → Word

/-- FREE VALUE: the agent of the `n`-th scheduling choice drawn after the explicit schedule has run out. "Any agent with an enabled
step may be scheduled at any step" (00_scope.md R7; log 1). -/
opaque turn : Nat → Agent

/-- FREE VALUE: what a host read of `ARG[i]` returns while `ARG_W[i]` = 0, after `wakes` deep-sleep wakes (20_memory.md R44; log 9). -/
opaque unwrittenArg : (wakes : Nat) → (i : Fin 4) → Word

/-- The elements that 10_state.md R37 leaves unspecified after a reset. -/
structure Unspecified where
  arg : Vector Word 4
  res : Vector Word 4
  pllFreq : BitVec 32
  apllFreq : BitVec 32
  pendingCfg : CpuCfg
  bufWait : Word
  wakeupDelay : Word
  wakeupTime : Word
  deriving DecidableEq, Repr, Inhabited

/-- FREE VALUE: what the unspecified elements hold after the `n`-th deep-sleep wake: "the unspecified ones take any value"
(70_reset_and_hazards.md R132; log 8). -/
opaque afterWake : Nat → Unspecified

end Sys2Proof.Config
end

