-- ==== Sys2Proof/Machine/State.lean ====
section
/-! DEFINITION. The state of the block as plain data (10_state.md), the reasons a step can stop, and the state after reset (R37).
The state is grouped as 10_state.md groups it: interface registers, status, clock source, CPU clock, calibrator, sleep, inputs, ghost
state; the last group is the model's own. -/

namespace Sys2Proof.Machine

/-- The data registers of the window: `ARG[0..3]` (10_state.md R11) and `RES[0..3]` (R12). -/
structure IoRegs where
  arg : Vector Word 4
  res : Vector Word 4
  deriving DecidableEq, Repr

/-- What `STATUS` shows: `PHASE` (10_state.md R18), `SLEEP_STATE` (R19), `FAULT` and `CAUSE` (R16), `INITIALISED` (R17) and
`WAKE_TIME_VALID` (R31). `BUSY` is derived (R15) and is not stored. -/
structure StatusRegs where
  phase : Phase
  sleepState : SleepState
  fault : Bool
  cause : BitVec 8
  initialised : Bool
  wakeTimeValid : Bool
  deriving DecidableEq, Repr

/-- `SLOW_CLK_SEL` (10_state.md R20), `XTAL` (R21), `RTC_COUNTER` (R22). -/
structure ClockRegs where
  slowClkSel : SlowSrc
  xtal : Crystal
  rtcCounter : Word
  deriving DecidableEq, Repr

/-- One PLL: `PLL_EN[k]`, `PLL_FREQ[k]`, `PLL_LOCKED[k]` (10_state.md R25). -/
structure PllRegs where
  en : Bool
  freq : BitVec 32
  locked : Bool
  deriving DecidableEq, Repr

/-- The CPU clock: `ACTIVE_CFG` (10_state.md R23), `CPU_MUX_SEL` and `CPU_DIV` (R24), the PLLs and `PENDING_CFG` (R25). -/
structure CpuRegs where
  activeCfg : CpuCfg
  muxSel : CpuSrc
  div : BitVec 32
  pll : PllRegs
  apll : PllRegs
  pendingCfg : CpuCfg
  deriving DecidableEq, Repr

/-- The calibrator: `CAL_TARGET`, `CAL_N`, `CAL_TCNT`, `CAL_ACC`, `CAL_REF_SEEN` (10_state.md R26). -/
structure CalRegs where
  target : CalTarget
  n : BitVec 32
  tcnt : BitVec 32
  acc : Word
  refSeen : Bool
  deriving DecidableEq, Repr

/-- The sleep orchestrator: `SLEEP_PD_CFG`, `SLEEP_PD_RES` (10_state.md R27), `DOMAIN_OFF`, `CPU_HALTED` (R28), `BUF_WAIT`,
`WAKEUP_DELAY` (R29), `SLOW_CLK_PERIOD` (R30), `WAKEUP_TIME` (R31), `SLP_WAKE_OPT`, `SLP_REJECT_OPT`, `LSLP_MEM_POLICY` (R32). -/
structure SleepRegs where
  pdCfg : PowerFlags
  pdRes : PowerFlags
  domainOff : PowerFlags
  cpuHalted : Bool
  bufWait : Word
  wakeupDelay : Word
  slowClkPeriod : BitVec 32
  wakeupTime : Word
  wakeOpt : BitVec 32
  rejectOpt : BitVec 32
  memPolicy : BitVec 32
  deriving DecidableEq, Repr

/-- The environment inputs `WAKE_COND` and `REJECT_COND` (10_state.md R33). -/
structure Inputs where
  wakeCond : BitVec 32
  rejectCond : BitVec 32
  deriving DecidableEq, Repr

/-- The ghost state: `ARG_W[0..3]`, `RES_W[0..3]`, `REFUSED` (10_state.md R36) and the two model-fault marks
(60_exceptions.md R113). -/
structure Ghost where
  argW : Vector Bool 4
  resW : Vector Bool 4
  refused : Bool
  unwrittenOperand : Bool
  unwrittenResult : Bool
  deriving DecidableEq, Repr

/-- One access of the host (20_memory.md R41, R44). An access names the register by its offset from `BASE`, which is what R41 speaks
of (log 4); any offset and any width can be written down, and the window refuses the ones R41 does not admit. -/
inductive HostOp where
  /-- `MemRead(BASE + offset, bytes)` -/
  | read (offset : Int) (bytes : Nat)
  /-- `MemWrite(BASE + offset, bytes, value)` -/
  | write (offset : Int) (bytes : Nat) (value : Word)
  /-- `repeat MemRead(BASE+0x08, 8) until STATUS.BUSY = 0` (30_encoding.md R62): one read a turn -/
  | pollStatus
  deriving DecidableEq, Repr

/-- The MODEL's own fields, which the spec does not give: what the host has still to do (log 3, log 12), what its last read
returned (log 5), which agents move next and how many choices were drawn (log 1), how many deep-sleep wakes there were (log 8), and whether the run has
ended at one (log 25). -/
structure Bench where
  /-- the host's accesses still to be made, in program order (20_memory.md R45) -/
  program : List HostOp
  /-- the accesses the host's boot path makes after a deep-sleep wake -/
  bootProgram : List HostOp
  /-- the data the host's last read returned -/
  busData : Word
  /-- the agents that move next, in order; past its end the agent is `Config.turn` -/
  schedule : List Agent
  /-- how many scheduling choices have been drawn from `Config.turn` -/
  freeTurns : Nat
  /-- how many deep-sleep wakes there have been: the index of the free values -/
  wakes : Nat
  /-- whether the run has reached the reset of a deep-sleep wake, where it ends (60_exceptions.md R129) -/
  runOver : Bool
  deriving DecidableEq, Repr

/-- The whole state of the block and its environment. -/
structure State where
  io : IoRegs
  st : StatusRegs
  clk : ClockRegs
  cpu : CpuRegs
  cal : CalRegs
  slp : SleepRegs
  env : Inputs
  ghost : Ghost
  bench : Bench
  deriving DecidableEq, Repr

/-- Reasons the machine stops. There is none: the spec describes the entry of every fault (60_exceptions.md R115) and of every model
fault (R113), and a refused access leaves the host stuck with `REFUSED` set (20_memory.md R41), so each is a next state. -/
inductive Fault where
  deriving DecidableEq, Repr

/-- Reasons an instruction has no meaning here. -/
inductive Refusal where
  /-- Raised by `exec` alone, for a command that has no meaning yet; safe (the machine stops). No arm raises it now. -/
  | notModelled (mnemonic : String)
  deriving DecidableEq, Repr

/-- What a step answers. -/
abbrev Result := Host.Outcome State Fault Refusal

/-- A PLL after reset: off and not locked; its frequency is unspecified (10_state.md R37), DESIGN CHOICE 0 (log 6). -/
def PllRegs.reset : PllRegs :=
  { en := false, freq := 0, locked := false }

/-- The state right after a cold boot (10_state.md R37, 60_exceptions.md R130). The elements R37 leaves unspecified hold a named value:
DESIGN CHOICE 0 (log 6), and the inputs are 0 (log 7). -/
def State.reset : State where
  io := { arg := #v[0, 0, 0, 0], res := #v[0, 0, 0, 0] }
  st := { phase := .idle, sleepState := .awake, fault := false, cause := 0, initialised := false, wakeTimeValid := false }
  clk := { slowClkSel := .rc, xtal := Config.xtal, rtcCounter := 0 }
  cpu := { activeCfg := { src := .xtal, srcMhz := Config.xtal.mhz, div := 1, resMhz := Config.xtal.mhz }, muxSel := .xtal, div := 1,
           pll := PllRegs.reset, apll := PllRegs.reset, pendingCfg := { src := .xtal, srcMhz := 0, div := 0, resMhz := 0 } }
  cal := { target := .rtcMux, n := 0, tcnt := 0, acc := 0, refSeen := false }
  slp := { pdCfg := 0, pdRes := 0, domainOff := 0, cpuHalted := false, bufWait := 0, wakeupDelay := 0,
           slowClkPeriod := Config.defaultPeriod, wakeupTime := 0, wakeOpt := 0, rejectOpt := 0, memPolicy := 0 }
  env := { wakeCond := 0, rejectCond := 0 }
  ghost := { argW := #v[false, false, false, false], resW := #v[false, false, false, false], refused := false,
             unwrittenOperand := false, unwrittenResult := false }
  bench := { program := [], bootProgram := [], busData := 0, schedule := [], freeTurns := 0, wakes := 0, runOver := false }

/-- A launch (60_exceptions.md R130): the clean-entry state with the initial inputs, the host's program, its boot path and the
schedule as arguments. -/
def State.launch (wake reject : BitVec 32) (program bootProgram : List HostOp) (schedule : List Agent) : State :=
  { State.reset with
    env := { wakeCond := wake, rejectCond := reject }
    bench := { State.reset.bench with program := program, bootProgram := bootProgram, schedule := schedule } }

end Sys2Proof.Machine
end

