-- ==== Sys2Proof/Machine/Flags.lean ====
section
/-! DEFINITION. Every value the block derives from its state: `BUSY` and the `STATUS` register (10_state.md R14, R15), the wake and
reject conditions (44_sleep_orchestrator.md R100, R101), and when the host is halted (R109). -/

namespace Sys2Proof.Machine

/-- `BUSY` = 1 exactly when `PHASE` is neither IDLE nor FAULTED (10_state.md R15). -/
def State.busy (s : State) : Bool :=
  !(s.st.phase == .idle || s.st.phase == .faulted)

/-- One flag as a bit. -/
def flagBit (b : Bool) : BitVec 1 :=
  BitVec.ofBool b

/-- The 64-bit `STATUS` register, highest field first (10_state.md R14): reserved 63:24, `CAUSE` 23:16, reserved 15:12, `PHASE` 11:8,
reserved 7, `SLEEP_STATE` 6:4, `WAKE_TIME_VALID` 3, `INITIALISED` 2, `FAULT` 1, `BUSY` 0. -/
def State.status (s : State) : Word :=
  0#40 ++ s.st.cause ++ 0#4 ++ s.st.phase.code ++ 0#1 ++ s.st.sleepState.code ++ flagBit s.st.wakeTimeValid
    ++ flagBit s.st.initialised ++ flagBit s.st.fault ++ flagBit s.busy

/-- `TimerLive`: `RTC_COUNTER ≥ WAKEUP_TIME`, unsigned (44_sleep_orchestrator.md R100). -/
def State.timerLive (s : State) : Bool :=
  s.slp.wakeupTime ≤ s.clk.rtcCounter

/-- `WakeLive(w)`: the timer source of bit 3, or an external source of another bit; `WAKE_COND[3]` is ignored
(44_sleep_orchestrator.md R100, 10_state.md R33). -/
def State.wakeLive (s : State) (w : BitVec 32) : Bool :=
  (w.getLsbD 3 && s.timerLive) || ((w &&& ~~~timerWakeup &&& s.env.wakeCond) != 0)

/-- `RejectMask(r) = r & REJECT_COND` (44_sleep_orchestrator.md R101). -/
def State.rejectMask (s : State) (r : BitVec 32) : BitVec 32 :=
  r &&& s.env.rejectCond

/-- The host has no step while the CPU is halted: `PHASE` ∈ {LIGHT_SLEEP, WAKING, DEEP_SLEEP} (44_sleep_orchestrator.md R109). -/
def State.hostHalted (s : State) : Bool :=
  s.st.phase == .lightSleep || s.st.phase == .waking || s.st.phase == .deepSleep

end Sys2Proof.Machine
end

