-- ==== Sys2Proof/Machine/Ops.lean ====
section
/-! DEFINITION. The shared operations on the state: writing a result, completing a command (00_scope.md R6), entering a phase, taking a
fault (60_exceptions.md R115) and a model fault (R113), refusing an access (20_memory.md R41), and the two ways back: the return from
a light sleep (44_sleep_orchestrator.md R104) and the reset of a deep-sleep wake (70_reset_and_hazards.md R132). -/

namespace Sys2Proof.Machine

/-- `PHASE <- p`. -/
def enterPhase (p : Phase) (s : State) : State :=
  { s with st := { s.st with phase := p } }

/-- `RES[i] <- v` and `RES_W[i] <- 1`; an omitted value leaves the register unchanged (00_scope.md R6, 10_state.md R36). -/
def writeRes (i : Fin 4) (v : Option Word) (s : State) : State :=
  match v with
  | none => s
  | some x =>
    { s with io := { s.io with res := s.io.res.set i x }, ghost := { s.ghost with resW := s.ghost.resW.set i true } }

/-- `complete(v0, v1, v2, v3)`: the given values go to `RES[0..3]` and the sequencer returns to IDLE (00_scope.md R6). -/
def complete (v0 v1 v2 v3 : Option Word) (s : State) : State :=
  enterPhase .idle (writeRes 3 v3 (writeRes 2 v2 (writeRes 1 v1 (writeRes 0 v0 s))))

/-- `complete()`: no result (00_scope.md R6). -/
def completeNone (s : State) : State :=
  complete none none none none s

/-- `complete(v)`: one result in `RES[0]` (00_scope.md R6, 10_state.md R12). -/
def completeOne (v : Word) (s : State) : State :=
  complete (some v) none none none s

/-- `raise Fault(code)`, the one way a fault is taken (60_exceptions.md R115): the first code is kept (10_state.md R16), the sequencer
goes to FAULTED, and nothing else is written. No handler, no vector and no saved state exist. -/
def raiseFault (code : FaultCode) (s : State) : State :=
  { s with st := { s.st with
      phase := .faulted
      fault := true
      cause := if s.st.fault then s.st.cause else code.code } }

/-- The model fault UNWRITTEN_OPERAND (60_exceptions.md R113): entered as R115 says, with `CAUSE` left as it was and a mark of its own
set. DEDUCED: `FAULT` is left as it was too, so that `FAULT` = 1 means the chip faulted (log 11). -/
def unwrittenOperandFault (s : State) : State :=
  { s with st := { s.st with phase := .faulted }, ghost := { s.ghost with unwrittenOperand := true } }

/-- The model fault UNWRITTEN_RESULT (60_exceptions.md R113), entered as `unwrittenOperandFault` is (log 11). -/
def unwrittenResultFault (s : State) : State :=
  { s with st := { s.st with phase := .faulted }, ghost := { s.ghost with unwrittenResult := true } }

/-- A refused access: the model sets `REFUSED` and the host has no step for the access, which stays where it is in the host's program
(20_memory.md R41, 60_exceptions.md R113; log 10). -/
def refuseAccess (s : State) : State :=
  { s with ghost := { s.ghost with refused := true } }

/-- The data the host's read returned (log 5). -/
def busReturn (v : Word) (s : State) : State :=
  { s with bench := { s.bench with busData := v } }

/-- The host has made its next access. -/
def popProgram (s : State) : State :=
  { s with bench := { s.bench with program := s.bench.program.tail } }

/-- The state after the reset of a deep-sleep wake (70_reset_and_hazards.md R132, 10_state.md R37): every specified element takes its
R37 value, and the unspecified ones take free values (log 8). `REFUSED` survives, being cleared only by a cold boot; the inputs are
not the block's to reset (10_state.md R33); the host's context is discarded, its boot path runs (R120; log 12), and the run is
over (R129; log 25). -/
def wakeReset (s : State) : State :=
  let u := Config.afterWake s.bench.wakes
  { State.reset with
    io := { arg := u.arg, res := u.res }
    cpu := { State.reset.cpu with
      pll := { PllRegs.reset with freq := u.pllFreq }
      apll := { PllRegs.reset with freq := u.apllFreq }
      pendingCfg := u.pendingCfg }
    slp := { State.reset.slp with bufWait := u.bufWait, wakeupDelay := u.wakeupDelay, wakeupTime := u.wakeupTime }
    env := s.env
    ghost := { State.reset.ghost with refused := s.ghost.refused }
    bench := { s.bench with program := s.bench.bootProgram, wakes := s.bench.wakes + 1, runOver := true } }

/-- The return from a light sleep (44_sleep_orchestrator.md R104, 60_exceptions.md R121): the powered-down domains are restored, the CPU
halt ends, the wakeup time is used up, and ENTER_LIGHT_SLEEP completes with 0. -/
def returnFromLightSleep (s : State) : State :=
  completeOne 0
    { s with
      slp := { s.slp with domainOff := 0, cpuHalted := false }
      st := { s.st with wakeTimeValid := false, sleepState := .awake } }

end Sys2Proof.Machine
end

