-- ==== Sys2Proof/Machine/Operands.lean ====
section
/-! DEFINITION. The operand formats of 30_encoding.md R51, the operand values of R52, and the two checks every command makes at issue
(R49): UNWRITTEN_OPERAND, then ILLEGAL_OPERAND. -/

namespace Sys2Proof.Machine

/-- The `RES` registers a command writes when it completes (30_encoding.md R59). ENTER_DEEP_SLEEP writes its only on rejection. -/
def resultRegs : Instr → List (Fin 4)
  | .init => []
  | .applyDefaultClk => []
  | .getXtalFreq => [0]
  | .getSlowSrc => [0]
  | .setSlowSrc => []
  | .getRtcCounter => [0]
  | .usToCycles => [0]
  | .cyclesToUs => [0]
  | .calibrate => [0]
  | .setCpuCfg => []
  | .getCpuCfg => [0, 1, 2, 3]
  | .switchToXtal => []
  | .prepareSleep => []
  | .setWakeupTime => []
  | .enterLightSleep => [0]
  | .enterDeepSleep => [0]
  | .postWakeInit => []

/-- The register whose low 32 bits are the command's period operand, for the conversions and POST_WAKE_INIT (30_encoding.md R51). -/
def periodReg : Instr → Option (Fin 4)
  | .init => none
  | .applyDefaultClk => none
  | .getXtalFreq => none
  | .getSlowSrc => none
  | .setSlowSrc => none
  | .getRtcCounter => none
  | .usToCycles => some 1
  | .cyclesToUs => some 1
  | .calibrate => none
  | .setCpuCfg => none
  | .getCpuCfg => none
  | .switchToXtal => none
  | .prepareSleep => none
  | .setWakeupTime => none
  | .enterLightSleep => none
  | .enterDeepSleep => none
  | .postWakeInit => some 0

/-- The legal values of an operand field (30_encoding.md R51). -/
inductive LegalValues where
  /-- any value -/
  | any
  /-- a slow source code of R54: 0, 1 or 2 -/
  | slowSource
  /-- a calibration count: 1 to `CAL_MAX_CYCLES` -/
  | calibrationCount
  deriving DecidableEq, Repr

/-- One field of a command's operand format: bits `[width-1:0]` of `ARG[reg]`. Every field of R51 starts at bit 0, and every bit of the
register above it is reserved. -/
structure OperandField where
  reg : Fin 4
  width : Nat
  legal : LegalValues
  deriving DecidableEq, Repr

/-- The operand formats (30_encoding.md R51), one list per command, in increasing register order. -/
def operandFormat : Instr → List OperandField
  | .init => []
  | .applyDefaultClk => []
  | .getXtalFreq => []
  | .getSlowSrc => []
  | .setSlowSrc => [⟨0, 2, .slowSource⟩]
  | .getRtcCounter => []
  | .usToCycles => [⟨0, 64, .any⟩, ⟨1, 32, .any⟩]
  | .cyclesToUs => [⟨0, 64, .any⟩, ⟨1, 32, .any⟩]
  | .calibrate => [⟨0, 2, .any⟩, ⟨1, 32, .calibrationCount⟩]
  | .setCpuCfg => [⟨0, 2, .any⟩, ⟨1, 32, .any⟩, ⟨2, 32, .any⟩, ⟨3, 32, .any⟩]
  | .getCpuCfg => []
  | .switchToXtal => []
  | .prepareSleep => [⟨0, 10, .any⟩]
  | .setWakeupTime => [⟨0, 64, .any⟩]
  | .enterLightSleep => [⟨0, 32, .any⟩, ⟨1, 32, .any⟩, ⟨2, 32, .any⟩]
  | .enterDeepSleep => [⟨0, 32, .any⟩, ⟨1, 32, .any⟩]
  | .postWakeInit => [⟨0, 32, .any⟩]

/-- Whether a field's value is in its legal range (30_encoding.md R51, R54; 42_frequency_calibrator.md R78). -/
def LegalValues.admits (l : LegalValues) (v : Word) : Bool :=
  match l with
  | .any => true
  | .slowSource => v.toNat ≤ 2
  | .calibrationCount => 1 ≤ v.toNat && v.toNat ≤ Config.calMaxCycles.toNat

/-- Whether a register's content passes its field: no reserved bit is 1 and the value is legal (30_encoding.md R49, R51). With every
bit above the field 0, the register's value is the field's. -/
def OperandField.accepts (f : OperandField) (v : Word) : Bool :=
  v.toNat < 2 ^ f.width && f.legal.admits v

/-- Whether every `ARG` register the command reads has been written (30_encoding.md R49, 10_state.md R36). -/
def operandsWritten (i : Instr) (s : State) : Bool :=
  (operandFormat i).all fun f => s.ghost.argW[f.reg]

/-- Whether every field of the command's operand format is legal (30_encoding.md R49). -/
def operandsLegal (i : Instr) (s : State) : Bool :=
  (operandFormat i).all fun f => f.accepts s.io.arg[f.reg]

/-- The operand value `ARG[i][w-1:0]` (30_encoding.md R52). -/
def argField (s : State) (i : Fin 4) (w : Nat) : BitVec w :=
  s.io.arg[i].setWidth w

/-- The command has no period operand, or one that is not 0 (60_exceptions.md R128, 70_reset_and_hazards.md R138). -/
def periodNonzero (i : Instr) (s : State) : Bool :=
  match periodReg i with
  | some r => argField s r 32 != 0
  | none => true

/-- The issue of a decoded command (30_encoding.md R49): the model fault UNWRITTEN_OPERAND, then ILLEGAL_OPERAND, then the command's rule
`body`. Its order is 60_exceptions.md R114.4 and R114.5. -/
def issue (i : Instr) (body : State → State) (s : State) : Result :=
  if !operandsWritten i s then .next (unwrittenOperandFault s)
  else if !operandsLegal i s then .next (raiseFault .illegalOperand s)
  else .next (body s)

end Sys2Proof.Machine
end

