-- ==== Sys2Proof/Machine/Calibrator.lean ====
section
/-! DEFINITION. The FrequencyCalibrator: CALIBRATE, the clock ticks it counts, and the two steps that end it
(42_frequency_calibrator.md). -/

namespace Sys2Proof.Machine

/-- `Period(acc, n)` in exact integer arithmetic, truncating; a quotient of 0 or of 2^32 or more gives 0
(42_frequency_calibrator.md R83). -/
def period (xtal : Crystal) (acc : Word) (n : BitVec 32) : BitVec 32 :=
  let q := acc.toNat * 2 ^ 19 / (xtal.mhz.toNat * n.toNat)
  if q = 0 ∨ 2 ^ 32 ≤ q then 0 else BitVec.ofNat 32 q

/-- CALIBRATE (42_frequency_calibrator.md R78): the accumulator starts from zero, and the command holds until Done or Timeout. -/
def calibrateBody (s : State) : State :=
  enterPhase .calibrating
    { s with cal := { target := CalTarget.ofCode (argField s 0 2), n := argField s 1 32, tcnt := 0, acc := 0, refSeen := false } }

/-- The issue of CALIBRATE: the operand checks, then `calibrateBody`. -/
def execCalibrate (s : State) : Result :=
  issue .calibrate calibrateBody s

/-- A calibration is counting: `PHASE` = CALIBRATING, `CAL_TCNT < CAL_N` and `CAL_ACC < CalTimeout(CAL_N)`
(42_frequency_calibrator.md R79, R80). -/
def counting (s : State) : Bool :=
  s.st.phase == .calibrating && s.cal.tcnt < s.cal.n && s.cal.acc < Config.calTimeout s.cal.n

/-- When the RefClock step is enabled (42_frequency_calibrator.md R79). -/
def refClockEnabled (s : State) : Bool :=
  counting s

/-- The RefClock step (42_frequency_calibrator.md R79). -/
def refClockStep (s : State) : State :=
  { s with cal := { s.cal with acc := s.cal.acc + 1, refSeen := true } }

/-- When the TargetClock step is enabled: a reference tick has occurred since the last target tick (42_frequency_calibrator.md R80). -/
def targetClockEnabled (s : State) : Bool :=
  counting s && s.cal.refSeen

/-- The TargetClock step (42_frequency_calibrator.md R80). -/
def targetClockStep (s : State) : State :=
  { s with cal := { s.cal with tcnt := s.cal.tcnt + 1, refSeen := false } }

/-- When the Done step is enabled (42_frequency_calibrator.md R81). -/
def calDoneEnabled (s : State) : Bool :=
  s.st.phase == .calibrating && s.cal.tcnt == s.cal.n

/-- The Done step (42_frequency_calibrator.md R81). -/
def calDoneStep (s : State) : State :=
  completeOne (zext64 (period s.clk.xtal s.cal.acc s.cal.n)) s

/-- When the Timeout step is enabled (42_frequency_calibrator.md R82). -/
def calTimeoutEnabled (s : State) : Bool :=
  s.st.phase == .calibrating && s.cal.tcnt < s.cal.n && s.cal.acc == Config.calTimeout s.cal.n

/-- The Timeout step: the sentinel 0, not a fault (42_frequency_calibrator.md R82, 60_exceptions.md R112). -/
def calTimeoutStep (s : State) : State :=
  completeOne 0 s

end Sys2Proof.Machine
end

