-- ==== Sys2Proof/Machine/ClockSource.lean ====
section
/-! DEFINITION. The ClockSourceManager commands, the RtcCounter and the settling delay (41_clock_source.md). -/

namespace Sys2Proof.Machine

/-- The SlowClock step is enabled in every phase, whenever `RTC_COUNTER < 2^64 - 1` (41_clock_source.md R69). -/
def slowClockEnabled (s : State) : Bool :=
  s.clk.rtcCounter.toNat < 2 ^ 64 - 1

/-- The SlowClock step (41_clock_source.md R69). -/
def slowClockStep (s : State) : State :=
  { s with clk := { s.clk with rtcCounter := s.clk.rtcCounter + 1 } }

/-- The Settle step is enabled only in SETTLING (41_clock_source.md R70). -/
def settleEnabled (s : State) : Bool :=
  s.st.phase == .settling

/-- The Settle step: BUSY falls, no result is written (41_clock_source.md R70). -/
def settleStep (s : State) : State :=
  enterPhase .idle s

/-- `SLOW_CLK_SEL <- src; PHASE <- SETTLING`, what SET_SLOW_SRC, APPLY_DEFAULT_CLK and INIT share (41_clock_source.md R73 to R75). -/
def selectSlowClock (src : SlowSrc) (s : State) : State :=
  enterPhase .settling { s with clk := { s.clk with slowClkSel := src } }

/-- GET_XTAL_FREQ (41_clock_source.md R71). -/
def getXtalFreqBody (s : State) : State :=
  completeOne (zext64 s.clk.xtal.mhz) s

/-- The issue of GET_XTAL_FREQ: the operand checks, then `getXtalFreqBody`. -/
def execGetXtalFreq (s : State) : Result :=
  issue .getXtalFreq getXtalFreqBody s

/-- GET_SLOW_SRC (41_clock_source.md R72). -/
def getSlowSrcBody (s : State) : State :=
  completeOne (zext64 s.clk.slowClkSel.code) s

/-- The issue of GET_SLOW_SRC: the operand checks, then `getSlowSrcBody`. -/
def execGetSlowSrc (s : State) : Result :=
  issue .getSlowSrc getSlowSrcBody s

/-- SET_SLOW_SRC (41_clock_source.md R73). Code 3 never reaches `ofCode`: the operand check refuses it first. -/
def setSlowSrcBody (s : State) : State :=
  match SlowSrc.ofCode (argField s 0 2) with
  | some src => selectSlowClock src s
  | none => raiseFault .illegalOperand s

/-- The issue of SET_SLOW_SRC: the operand checks, then `setSlowSrcBody`. -/
def execSetSlowSrc (s : State) : Result :=
  issue .setSlowSrc setSlowSrcBody s

/-- APPLY_DEFAULT_CLK (41_clock_source.md R74). -/
def applyDefaultClkBody (s : State) : State :=
  selectSlowClock .rc s

/-- The issue of APPLY_DEFAULT_CLK: the operand checks, then `applyDefaultClkBody`. -/
def execApplyDefaultClk (s : State) : Result :=
  issue .applyDefaultClk applyDefaultClkBody s

/-- INIT (41_clock_source.md R75, 10_state.md R17). -/
def initBody (s : State) : State :=
  if s.st.initialised then raiseFault .initRepeated s
  else selectSlowClock .rc { s with st := { s.st with initialised := true } }

/-- The issue of INIT: the operand checks, then `initBody`. -/
def execInit (s : State) : Result :=
  issue .init initBody s

/-- GET_RTC_COUNTER (41_clock_source.md R76). -/
def getRtcCounterBody (s : State) : State :=
  completeOne s.clk.rtcCounter s

/-- The issue of GET_RTC_COUNTER: the operand checks, then `getRtcCounterBody`. -/
def execGetRtcCounter (s : State) : Result :=
  issue .getRtcCounter getRtcCounterBody s

end Sys2Proof.Machine
end

