-- ==== Sys2Proof/Machine/CpuSwitcher.lean ====
section
/-! DEFINITION. The CpuFrequencySwitcher: its three commands, the PLL locks and the step that ends a PLL warm-up
(43_cpu_frequency_switcher.md). -/

namespace Sys2Proof.Machine

/-- `Valid(cfg)` (43_cpu_frequency_switcher.md R86). Every source code is in {0, 1, 2, 3}, so the source needs no check. -/
def CpuCfg.valid (c : CpuCfg) : Bool :=
  1 ≤ c.div.toNat && c.div.toNat ≤ Config.cpuDivMax.toNat && c.resMhz == c.srcMhz / c.div

/-- The registers of PLL `k` (10_state.md R25). -/
def CpuRegs.pllOf (c : CpuRegs) (k : Pll) : PllRegs :=
  match k with
  | .pll => c.pll
  | .apll => c.apll

/-- Writes the registers of PLL `k` (10_state.md R25). -/
def CpuRegs.setPll (c : CpuRegs) (k : Pll) (r : PllRegs) : CpuRegs :=
  match k with
  | .pll => { c with pll := r }
  | .apll => { c with apll := r }

/-- A switch that needs no warm-up: multiplexer and divider, then the record (43_cpu_frequency_switcher.md R88, R90). -/
def applyCfg (cfg : CpuCfg) (s : State) : State :=
  { s with cpu := { s.cpu with muxSel := cfg.src, div := cfg.div, activeCfg := cfg } }

/-- The start of a switch to a source that needs PLL `k`: the CPU moves to the crystal at divider 1, the PLL is enabled and
reprogrammed, and the configuration is kept in `PENDING_CFG` (43_cpu_frequency_switcher.md R88). -/
def startPll (k : Pll) (cfg : CpuCfg) (s : State) : State :=
  { s with cpu := { (s.cpu.setPll k { en := true, freq := cfg.srcMhz, locked := false }) with
      muxSel := .xtal, div := 1, pendingCfg := cfg } }

/-- The configuration SET_CPU_CFG reads from `ARG[0..3]` (43_cpu_frequency_switcher.md R88). -/
def cfgOperand (s : State) : CpuCfg :=
  { src := CpuSrc.ofCode (argField s 0 2), srcMhz := argField s 1 32, div := argField s 2 32, resMhz := argField s 3 32 }

/-- SET_CPU_CFG (43_cpu_frequency_switcher.md R88). -/
def setCpuCfgBody (s : State) : State :=
  let cfg := cfgOperand s
  if s.st.sleepState = .preparing then raiseFault .sequenceError s
  else if !cfg.valid then raiseFault .invalidFrequencyConfig s
  else match cfg.src.pll? with
    | some k => enterPhase .pllWait (startPll k cfg s)
    | none => completeNone (applyCfg cfg s)

/-- The issue of SET_CPU_CFG: the operand checks, then `setCpuCfgBody`. -/
def execSetCpuCfg (s : State) : Result :=
  issue .setCpuCfg setCpuCfgBody s

/-- When the PllLock(k) step is enabled (43_cpu_frequency_switcher.md R89). -/
def pllLockEnabled (k : Pll) (s : State) : Bool :=
  (s.cpu.pllOf k).en && !(s.cpu.pllOf k).locked

/-- The PllLock(k) step (43_cpu_frequency_switcher.md R89). -/
def pllLockStep (k : Pll) (s : State) : State :=
  { s with cpu := s.cpu.setPll k { s.cpu.pllOf k with locked := true } }

/-- When the PLL-ready step is enabled (43_cpu_frequency_switcher.md R90). -/
def pllReadyEnabled (s : State) : Bool :=
  s.st.phase == .pllWait &&
    match s.cpu.pendingCfg.src.pll? with
    | some k => (s.cpu.pllOf k).locked
    | none => false

/-- The PLL-ready step (43_cpu_frequency_switcher.md R90). -/
def pllReadyStep (s : State) : State :=
  completeNone (applyCfg s.cpu.pendingCfg s)

/-- GET_CPU_CFG (43_cpu_frequency_switcher.md R91). -/
def getCpuCfgBody (s : State) : State :=
  complete (some (zext64 s.cpu.activeCfg.src.code)) (some (zext64 s.cpu.activeCfg.srcMhz))
    (some (zext64 s.cpu.activeCfg.div)) (some (zext64 s.cpu.activeCfg.resMhz)) s

/-- The issue of GET_CPU_CFG: the operand checks, then `getCpuCfgBody`. -/
def execGetCpuCfg (s : State) : Result :=
  issue .getCpuCfg getCpuCfgBody s

/-- The configuration of the crystal at divider 1 (43_cpu_frequency_switcher.md R92). -/
def crystalCfg (x : Crystal) : CpuCfg :=
  { src := .xtal, srcMhz := x.mhz, div := 1, resMhz := x.mhz }

/-- SWITCH_TO_XTAL (43_cpu_frequency_switcher.md R92). -/
def switchToXtalBody (s : State) : State :=
  completeNone (applyCfg (crystalCfg s.clk.xtal) s)

/-- The issue of SWITCH_TO_XTAL: the operand checks, then `switchToXtalBody`. -/
def execSwitchToXtal (s : State) : Result :=
  issue .switchToXtal switchToXtalBody s

end Sys2Proof.Machine
end

