-- ==== Sys2Proof/Machine/TimeConverter.lean ====
section
/-! DEFINITION. The TimeConverter commands (40_time_converter.md): fixed-point conversion between microseconds and slow-clock cycles. -/

namespace Sys2Proof.Machine

/-- `trunc_64(us << 19) / p` (40_time_converter.md R64, R65). -/
def usToSlowCycles (us : Word) (p : BitVec 32) : Word :=
  (us <<< 19) / zext64 p

/-- `trunc_64(c * p) >> 19` (40_time_converter.md R64, R66). -/
def slowCyclesToUs (c : Word) (p : BitVec 32) : Word :=
  (c * zext64 p) >>> 19

/-- US_TO_CYCLES (40_time_converter.md R65). -/
def usToCyclesBody (s : State) : State :=
  let us := argField s 0 64
  let p := argField s 1 32
  if p = 0 then raiseFault .divideByZero s else completeOne (usToSlowCycles us p) s

/-- The issue of US_TO_CYCLES: the operand checks, then `usToCyclesBody`. -/
def execUsToCycles (s : State) : Result :=
  issue .usToCycles usToCyclesBody s

/-- CYCLES_TO_US (40_time_converter.md R66; a zero period faults, 90_conflicts.md C2). -/
def cyclesToUsBody (s : State) : State :=
  let c := argField s 0 64
  let p := argField s 1 32
  if p = 0 then raiseFault .divideByZero s else completeOne (slowCyclesToUs c p) s

/-- The issue of CYCLES_TO_US: the operand checks, then `cyclesToUsBody`. -/
def execCyclesToUs (s : State) : Result :=
  issue .cyclesToUs cyclesToUsBody s

end Sys2Proof.Machine
end

