-- ==== Sys2Proof/Machine/Sleep.lean ====
section
/-! DEFINITION. The SleepOrchestrator: the resolution of the power flags, the timing constants, its five commands and the sequencer steps
that end a sleep (44_sleep_orchestrator.md). -/

namespace Sys2Proof.Machine

/-- `Resolve(f)`: with the policy bit set, both RTC memory bits become `f[8] | f[0]`; the policy bit is cleared
(44_sleep_orchestrator.md R96). -/
def resolve (f : PowerFlags) : PowerFlags :=
  let r := f &&& ~~~pdFollowCpu
  if f.getLsbD 4 then
    let mem := pdRtcSlowMem ||| pdRtcFastMem
    if f.getLsbD 8 || f.getLsbD 0 then r ||| mem else r &&& ~~~mem
  else r

/-- `LoadTimings()`: the two timing constants, from the resolved flags and the slow-clock period (44_sleep_orchestrator.md R97). -/
def loadTimings (s : State) : State :=
  { s with slp := { s.slp with
      bufWait := usToSlowCycles (Config.bufWaitUs s.slp.pdRes) s.slp.slowClkPeriod
      wakeupDelay := usToSlowCycles (Config.wakeupDelayUs s.slp.pdRes) s.slp.slowClkPeriod } }

/-- PREPARE_SLEEP (44_sleep_orchestrator.md R98). -/
def prepareSleepBody (s : State) : State :=
  let f := argField s 0 10
  let s := loadTimings { s with slp := { s.slp with pdCfg := f, pdRes := resolve f } }
  completeNone { s with st := { s.st with sleepState := .preparing } }

/-- The issue of PREPARE_SLEEP: the operand checks, then `prepareSleepBody`. -/
def execPrepareSleep (s : State) : Result :=
  issue .prepareSleep prepareSleepBody s

/-- SET_WAKEUP_TIME (44_sleep_orchestrator.md R99). -/
def setWakeupTimeBody (s : State) : State :=
  completeNone { s with
    slp := { s.slp with wakeupTime := argField s 0 64 }
    st := { s.st with wakeTimeValid := true } }

/-- The issue of SET_WAKEUP_TIME: the operand checks, then `setWakeupTimeBody`. -/
def execSetWakeupTime (s : State) : Result :=
  issue .setWakeupTime setWakeupTimeBody s

/-- How an ENTER_LIGHT_SLEEP issued without a fault ends, if it ends (44_sleep_orchestrator.md R110). -/
inductive LightSleepOutcome where
  /-- rejected: `RES[0]` is the mask, which is not 0 -/
  | rejected (mask : BitVec 32)
  /-- slept and woke: `RES[0]` is 0 -/
  | woke
  deriving DecidableEq, Repr

/-- How an ENTER_DEEP_SLEEP issued without a fault ends, if it ends (44_sleep_orchestrator.md R110, 90_conflicts.md C6). -/
inductive DeepSleepOutcome where
  /-- rejected: `RES[0]` is the mask, which is not 0 -/
  | rejected (mask : BitVec 32)
  /-- control will not resume here: the next host step is after a reset -/
  | noReturn
  deriving DecidableEq, Repr

/-- The checks the two sleep entries share (44_sleep_orchestrator.md R102, R105): SEQUENCE_ERROR, then WAKEUP_TIME_UNSET, then the
matching reject conditions, 0 for none (R101). -/
def sleepCheck (w r : BitVec 32) (s : State) : Except FaultCode (BitVec 32) :=
  if s.st.sleepState ≠ .preparing then .error .sequenceError
  else if w.getLsbD 3 && !s.st.wakeTimeValid then .error .wakeupTimeUnset
  else .ok (s.rejectMask r)

/-- A rejection writes `SLEEP_STATE` and `RES[0]` alone (44_sleep_orchestrator.md R102, R105). -/
def rejectSleep (mask : BitVec 32) (s : State) : State :=
  completeOne (zext64 mask) { s with st := { s.st with sleepState := .awake } }

/-- The result of ENTER_LIGHT_SLEEP as its issue settles it: a fault, or the outcome it has if it ends (44_sleep_orchestrator.md R110;
log 26). -/
def lightSleepResult (w r : BitVec 32) (s : State) : Except FaultCode LightSleepOutcome :=
  match sleepCheck w r s with
  | .error c => .error c
  | .ok mask => .ok (if mask = 0 then .woke else .rejected mask)

/-- The result of ENTER_DEEP_SLEEP as its issue settles it: a fault, or the outcome it has if it ends (44_sleep_orchestrator.md R110;
log 26). -/
def deepSleepResult (w r : BitVec 32) (s : State) : Except FaultCode DeepSleepOutcome :=
  match sleepCheck w r s with
  | .error c => .error c
  | .ok mask => .ok (if mask = 0 then .noReturn else .rejected mask)

/-- The outcome a host reads from `RES[0]` of a completed ENTER_LIGHT_SLEEP (30_encoding.md R59, 44_sleep_orchestrator.md R110). -/
def lightSleepReading (v : Word) : LightSleepOutcome :=
  if v = 0 then .woke else .rejected (v.setWidth 32)

/-- The commit of a light sleep (44_sleep_orchestrator.md R102). -/
def commitLightSleep (w r m : BitVec 32) (s : State) : State :=
  { s with
    slp := { s.slp with wakeOpt := w, rejectOpt := r, memPolicy := m, domainOff := s.slp.pdRes, cpuHalted := true }
    st := { s.st with sleepState := .lightSleeping, phase := .lightSleep } }

/-- The commit of a deep sleep: the digital domain is forced down and the follow-CPU policy is resolved again
(44_sleep_orchestrator.md R105). -/
def commitDeepSleep (w r : BitVec 32) (s : State) : State :=
  { s with
    slp := { s.slp with wakeOpt := w, rejectOpt := r, domainOff := resolve (s.slp.pdCfg ||| pdDig), cpuHalted := true }
    st := { s.st with sleepState := .deepSleepPending, phase := .deepSleep } }

/-- ENTER_LIGHT_SLEEP (44_sleep_orchestrator.md R102). -/
def enterLightSleepBody (s : State) : State :=
  let w := argField s 0 32
  let r := argField s 1 32
  match lightSleepResult w r s with
  | .error c => raiseFault c s
  | .ok (.rejected mask) => rejectSleep mask s
  | .ok .woke => commitLightSleep w r (argField s 2 32) s

/-- The issue of ENTER_LIGHT_SLEEP: the operand checks, then `enterLightSleepBody`. -/
def execEnterLightSleep (s : State) : Result :=
  issue .enterLightSleep enterLightSleepBody s

/-- ENTER_DEEP_SLEEP (44_sleep_orchestrator.md R105). -/
def enterDeepSleepBody (s : State) : State :=
  let w := argField s 0 32
  let r := argField s 1 32
  match deepSleepResult w r s with
  | .error c => raiseFault c s
  | .ok (.rejected mask) => rejectSleep mask s
  | .ok .noReturn => commitDeepSleep w r s

/-- The issue of ENTER_DEEP_SLEEP: the operand checks, then `enterDeepSleepBody`. -/
def execEnterDeepSleep (s : State) : Result :=
  issue .enterDeepSleep enterDeepSleepBody s

/-- POST_WAKE_INIT (44_sleep_orchestrator.md R107). -/
def postWakeInitBody (s : State) : State :=
  let p := argField s 0 32
  if p = 0 then raiseFault .divideByZero s
  else completeNone (loadTimings { s with slp := { s.slp with slowClkPeriod := p } })

/-- The issue of POST_WAKE_INIT: the operand checks, then `postWakeInitBody`. -/
def execPostWakeInit (s : State) : Result :=
  issue .postWakeInit postWakeInitBody s

/-- When the light-sleep wake step is enabled (44_sleep_orchestrator.md R103). -/
def lightWakeEnabled (s : State) : Bool :=
  s.st.phase == .lightSleep && s.wakeLive s.slp.wakeOpt

/-- The light-sleep wake step (44_sleep_orchestrator.md R103). -/
def lightWakeStep (s : State) : State :=
  { s with st := { s.st with sleepState := .waking, phase := .waking } }

/-- When the restore step is enabled (44_sleep_orchestrator.md R104). -/
def restoreEnabled (s : State) : Bool :=
  s.st.phase == .waking

/-- The restore step (44_sleep_orchestrator.md R104). -/
def restoreStep (s : State) : State :=
  returnFromLightSleep s

/-- When the deep-sleep wake step is enabled (44_sleep_orchestrator.md R106). -/
def deepWakeEnabled (s : State) : Bool :=
  s.st.phase == .deepSleep && s.wakeLive s.slp.wakeOpt

/-- The deep-sleep wake step: the block resets (44_sleep_orchestrator.md R106). -/
def deepWakeStep (s : State) : State :=
  wakeReset s

end Sys2Proof.Machine
end

