-- ==== Sys2Proof/Machine/Dispatch.lean ====
section
/-! DEFINITION. One arm per command: the issue step of a decoded command (30_encoding.md R49). -/

namespace Sys2Proof.Machine

def exec (i : Instr) (s : State) : Host.Outcome State Fault Refusal :=
  match i with
  | .init => Sys2Proof.Machine.execInit s
  | .applyDefaultClk => Sys2Proof.Machine.execApplyDefaultClk s
  | .getXtalFreq => Sys2Proof.Machine.execGetXtalFreq s
  | .getSlowSrc => Sys2Proof.Machine.execGetSlowSrc s
  | .setSlowSrc => Sys2Proof.Machine.execSetSlowSrc s
  | .getRtcCounter => Sys2Proof.Machine.execGetRtcCounter s
  | .usToCycles => Sys2Proof.Machine.execUsToCycles s
  | .cyclesToUs => Sys2Proof.Machine.execCyclesToUs s
  | .calibrate => Sys2Proof.Machine.execCalibrate s
  | .setCpuCfg => Sys2Proof.Machine.execSetCpuCfg s
  | .getCpuCfg => Sys2Proof.Machine.execGetCpuCfg s
  | .switchToXtal => Sys2Proof.Machine.execSwitchToXtal s
  | .prepareSleep => Sys2Proof.Machine.execPrepareSleep s
  | .setWakeupTime => Sys2Proof.Machine.execSetWakeupTime s
  | .enterLightSleep => Sys2Proof.Machine.execEnterLightSleep s
  | .enterDeepSleep => Sys2Proof.Machine.execEnterDeepSleep s
  | .postWakeInit => Sys2Proof.Machine.execPostWakeInit s

end Sys2Proof.Machine
end

