-- ==== Sys2Proof/Machine/Window.lean ====
section
/-! DEFINITION. The register window and the host's accesses to it (20_memory.md), and the expansion of one line of a host program into
accesses (30_encoding.md R62). -/

namespace Sys2Proof.Machine

/-- The ten registers of the window (20_memory.md R39). -/
inductive WindowReg where
  | cmd
  | status
  | arg (i : Fin 4)
  | res (i : Fin 4)
  deriving DecidableEq, Repr

/-- The register at an offset from `BASE`: only the ten 8-byte aligned offsets of 20_memory.md R39 have one. -/
def windowReg (offset : Int) : Option WindowReg :=
  if offset = 0x00 then some .cmd
  else if offset = 0x08 then some .status
  else if offset = 0x10 then some (.arg 0)
  else if offset = 0x18 then some (.arg 1)
  else if offset = 0x20 then some (.arg 2)
  else if offset = 0x28 then some (.arg 3)
  else if offset = 0x30 then some (.res 0)
  else if offset = 0x38 then some (.res 1)
  else if offset = 0x40 then some (.res 2)
  else if offset = 0x48 then some (.res 3)
  else none

/-- The register an access of `bytes` bytes at `offset` reaches: exactly 8 bytes, aligned, inside the window (20_memory.md R41). -/
def admitted (offset : Int) (bytes : Nat) : Option WindowReg :=
  if bytes = 8 then windowReg offset else none

/-- `addr − BASE` of a bus address (20_memory.md R41). -/
def busOffset (addr : Nat) : Int :=
  (addr : Int) - (Config.base : Int)

/-- `MemRead(addr, bytes)` at a bus address (00_scope.md R6). -/
def memRead (addr bytes : Nat) : HostOp :=
  .read (busOffset addr) bytes

/-- `MemWrite(addr, bytes, v)` at a bus address (00_scope.md R6). -/
def memWrite (addr bytes : Nat) (v : Word) : HostOp :=
  .write (busOffset addr) bytes v

/-- What a host read of `ARG[i]` returns: the register, or any value while it has never been written (20_memory.md R44; log 9). -/
def hostArg (i : Fin 4) (s : State) : Word :=
  if s.ghost.argW[i] then s.io.arg[i] else Config.unwrittenArg s.bench.wakes i

/-- A host read (20_memory.md R44): no side effect but the data it returns; a `RES` register never written is the model fault
UNWRITTEN_RESULT. -/
def readReg (r : WindowReg) (s : State) : State :=
  match r with
  | .cmd => busReturn 0 s
  | .status => busReturn s.status s
  | .arg i => busReturn (hostArg i s) s
  | .res i => if s.ghost.resW[i] then busReturn s.io.res[i] s else unwrittenResultFault s

/-- A host write of `CMD` (20_memory.md R43): no effect in FAULTED; BUSY while a command is in progress; ILLEGAL_COMMAND for a value the
decoder refuses; else the issue step of the command. -/
def writeCmd (v : Word) (s : State) : Result :=
  if s.st.phase = .faulted then .next s
  else if s.busy then .next (raiseFault .busy s)
  else match decodeValue v with
    | .error _ => .next (raiseFault .illegalCommand s)
    | .ok i => exec i s

/-- `ARG[i] <- v; ARG_W[i] <- 1` (20_memory.md R44). -/
def writeArg (i : Fin 4) (v : Word) (s : State) : State :=
  { s with io := { s.io with arg := s.io.arg.set i v }, ghost := { s.ghost with argW := s.ghost.argW.set i true } }

/-- A host write (20_memory.md R39, R44): writes to `STATUS` and `RES` have no effect. -/
def writeReg (r : WindowReg) (v : Word) (s : State) : Result :=
  match r with
  | .cmd => writeCmd v s
  | .status => .next s
  | .arg i => .next (writeArg i v s)
  | .res _ => .next s

/-- One access of the host. An access the window does not admit leaves the host stuck on it (20_memory.md R41; log 10). A poll reads
`STATUS` and stays next in the program while `BUSY` = 1 (30_encoding.md R62; log 20). -/
def hostAccess (op : HostOp) (s : State) : Result :=
  match op with
  | .read offset bytes =>
    match admitted offset bytes with
    | some r => .next (readReg r (popProgram s))
    | none => .next (refuseAccess s)
  | .write offset bytes v =>
    match admitted offset bytes with
    | some r => writeReg r v (popProgram s)
    | none => .next (refuseAccess s)
  | .pollStatus => .next (busReturn s.status (if s.busy then s else popProgram s))

/-- The byte of the window at `BASE + offset` (20_memory.md R42): byte `i` of a register is its bits `[8i+7:8i]`. `none` where the window
has no register. It is a view of the registers, not an access: R41 admits no access narrower than a register. -/
def windowByte (s : State) (offset : Nat) : Option Byte :=
  let byteOf (v : Word) : Byte := (v >>> (8 * (offset % 8))).setWidth 8
  match windowReg ((offset - offset % 8 : Nat) : Int) with
  | none => none
  | some .cmd => some 0
  | some .status => some (byteOf s.status)
  | some (.arg i) => some (byteOf (hostArg i s))
  | some (.res i) => some (byteOf s.io.res[i])

/-- The offset of `ARG[i]` (20_memory.md R39). -/
def argOffset (i : Fin 4) : Int :=
  0x10 + 8 * (i.val : Int)

/-- The accesses of one line `MNEMONIC a0, a1, …` of a host program (30_encoding.md R62): one write per operand register the command
reads, in increasing register order, the `CMD` write, and the `STATUS` poll. -/
def assemble (i : Instr) (operands : List Word) : List HostOp :=
  ((operandFormat i).zip operands).map (fun fv => HostOp.write (argOffset fv.1.reg) 8 fv.2)
    ++ [.write 0x00 8 (encodeValue i), .pollStatus]

end Sys2Proof.Machine
end

