-- ==== Sys2Proof/Machine/Agents.lean ====
section
/-! DEFINITION. One turn of an agent of the step relation (00_scope.md R7, R9), and the choice of the agent that moves next (log 1). -/

namespace Sys2Proof.Machine

/-- The sequencer's step that ends the hold in progress, where it is enabled: Done (42_frequency_calibrator.md R81), Timeout (R82),
PLL-ready (43_cpu_frequency_switcher.md R90), light wake, restore, deep wake (44_sleep_orchestrator.md R103, R104, R106). At most one is
enabled in a state. -/
def sequencerStep? (s : State) : Option State :=
  if calDoneEnabled s then some (calDoneStep s)
  else if calTimeoutEnabled s then some (calTimeoutStep s)
  else if pllReadyEnabled s then some (pllReadyStep s)
  else if lightWakeEnabled s then some (lightWakeStep s)
  else if restoreEnabled s then some (restoreStep s)
  else if deepWakeEnabled s then some (deepWakeStep s)
  else none

/-- The host has a step: the CPU is not halted (44_sleep_orchestrator.md R109), the host has an access to make, and the window admits it
(20_memory.md R41). -/
def hostEnabled (s : State) : Bool :=
  !s.hostHalted &&
    match s.bench.program with
    | [] => false
    | .read offset bytes :: _ => (admitted offset bytes).isSome
    | .write offset bytes _ :: _ => (admitted offset bytes).isSome
    | .pollStatus :: _ => true

/-- Whether an agent has an enabled step (00_scope.md R7, R8). -/
def enabled (a : Agent) (s : State) : Bool :=
  match a with
  | .host => hostEnabled s
  | .sequencer => (sequencerStep? s).isSome
  | .slowClock => slowClockEnabled s
  | .refClock => refClockEnabled s
  | .targetClock => targetClockEnabled s
  | .settle => settleEnabled s
  | .pllLock k => pllLockEnabled k s
  | .conditions _ _ => true

/-- The host's turn: nothing while the CPU is halted or its program is over (44_sleep_orchestrator.md R109), else its next access. -/
def hostTurn (s : State) : Result :=
  if s.hostHalted then .next s
  else match s.bench.program with
    | [] => .next s
    | op :: _ => hostAccess op s

/-- A change of the input vectors (10_state.md R33). -/
def conditionsStep (wake reject : BitVec 32) (s : State) : State :=
  { s with env := { wakeCond := wake, rejectCond := reject } }

/-- The state after `step`, if `on`; an agent without an enabled step lets its turn pass (log 2). -/
def stepIf (on : Bool) (step : State → State) (s : State) : Result :=
  .next (if on then step s else s)

/-- One turn of an agent: its step as one atomic transition (00_scope.md R9), or nothing where it has no enabled step (log 2). -/
def turn (a : Agent) (s : State) : Result :=
  match a with
  | .host => hostTurn s
  | .sequencer => .next ((sequencerStep? s).getD s)
  | .slowClock => stepIf (slowClockEnabled s) slowClockStep s
  | .refClock => stepIf (refClockEnabled s) refClockStep s
  | .targetClock => stepIf (targetClockEnabled s) targetClockStep s
  | .settle => stepIf (settleEnabled s) settleStep s
  | .pllLock k => stepIf (pllLockEnabled k s) (pllLockStep k) s
  | .conditions w r => .next (conditionsStep w r s)

/-- The agent that moves next: the head of the explicit schedule, or past its end a free value (00_scope.md R7; log 1). -/
def nextAgent (s : State) : Agent :=
  match s.bench.schedule with
  | a :: _ => a
  | [] => Config.turn s.bench.freeTurns

/-- The schedule with its head used up; past its end, the free value used up. -/
def takeAgent (s : State) : State :=
  match s.bench.schedule with
  | _ :: rest => { s with bench := { s.bench with schedule := rest } }
  | [] => { s with bench := { s.bench with freeTurns := s.bench.freeTurns + 1 } }

/-- The host's next turn is next, and its next access is a `CMD` write of `v`. -/
def placeCommand (v : Word) (s : State) : State :=
  { s with bench := { s.bench with
      program := .write 0x00 8 v :: s.bench.program
      schedule := .host :: s.bench.schedule } }

end Sys2Proof.Machine
end

