-- ==== Sys2Proof/Machine/Step.lean ====
section
/-! DEFINITION. The step: the agent that moves next takes one turn (00_scope.md R7, R9). -/

namespace Sys2Proof.Machine

/-- One step of the whole: one turn of the agent that moves next. -/
def step (s : State) : Host.Outcome State Fault Refusal :=
  turn (nextAgent s) (takeAgent s)

/-- `s` with an instruction placed where the next step takes it: a command word is taken from the host's `CMD` write itself
(20_memory.md R47), so the host's next access is that write and the host moves next (log 3). -/
def State.withFetchWord (s : State) (nbits w : Nat) : State :=
  placeCommand (cmdValueOf nbits w) s

end Sys2Proof.Machine
end

