-- ==== Sys2Proof/Machine/Assembler.lean ====
section
/-! DEFINITION. The assembly line of a host program (30_encoding.md R62): a mnemonic and its operands, as text, to the accesses it expands
to. Text is a list of characters. What R62 leaves open about white space, case and too large numbers is in log 23. -/

namespace Sys2Proof.Machine

/-- The mnemonic of a command (30_encoding.md R50). -/
def mnemonicOf : Instr → String
  | .init => "INIT"
  | .applyDefaultClk => "APPLY_DEFAULT_CLK"
  | .getXtalFreq => "GET_XTAL_FREQ"
  | .getSlowSrc => "GET_SLOW_SRC"
  | .setSlowSrc => "SET_SLOW_SRC"
  | .getRtcCounter => "GET_RTC_COUNTER"
  | .usToCycles => "US_TO_CYCLES"
  | .cyclesToUs => "CYCLES_TO_US"
  | .calibrate => "CALIBRATE"
  | .setCpuCfg => "SET_CPU_CFG"
  | .getCpuCfg => "GET_CPU_CFG"
  | .switchToXtal => "SWITCH_TO_XTAL"
  | .prepareSleep => "PREPARE_SLEEP"
  | .setWakeupTime => "SET_WAKEUP_TIME"
  | .enterLightSleep => "ENTER_LIGHT_SLEEP"
  | .enterDeepSleep => "ENTER_DEEP_SLEEP"
  | .postWakeInit => "POST_WAKE_INIT"

/-- The code names an operand may use in place of a number: R54, R55, R56 (30_encoding.md R62). -/
def codeNames : List (String × Nat) :=
  [("RC", 0), ("XTAL32K", 1), ("RC_D256", 2),
   ("RTC_MUX", 0), ("CAL_RC", 1), ("CAL_XTAL32K", 2), ("CAL_RC_D256", 3),
   ("XTAL", 0), ("PLL", 1), ("RC8M", 2), ("APLL", 3)]

/-- The names of bits, which may be joined: R57, the source's two names among them, and R58 (30_encoding.md R62; log 23). -/
def bitNames : List (String × Nat) :=
  [("PD_DIG", 0x001), ("PD_RTC_PERIPH", 0x002), ("PD_RTC_SLOW_MEM", 0x004), ("PD_RTC_FAST_MEM", 0x008),
   ("PD_RTC_MEM_FOLLOW_CPU", 0x010), ("PD_VDDSDIO", 0x020), ("PD_WIFI", 0x040), ("PD_BT", 0x080),
   ("PD_CPU", 0x100), ("PD_DIG_PERIPH", 0x200), ("RTC_SLEEP_PD_DIG", 0x001), ("RTC_SLEEP_PD_CPU", 0x100), ("TIMER_WAKEUP", 0x8)]

/-- The value of a digit in a base of at most 16. -/
def digitValue (base : Nat) (c : Char) : Option Nat :=
  let n := c.toNat
  let v := if 48 ≤ n ∧ n ≤ 57 then n - 48 else if 97 ≤ n ∧ n ≤ 102 then n - 87 else if 65 ≤ n ∧ n ≤ 70 then n - 55 else base
  if v < base then some v else none

/-- The number a list of digits writes, on top of the digits already read. -/
def digitsFrom (base : Nat) : Nat → List Char → Option Nat
  | acc, [] => some acc
  | acc, c :: rest =>
    match digitValue base c with
    | some d => digitsFrom base (acc * base + d) rest
    | none => none

/-- An unsigned decimal or `0x` hexadecimal number (30_encoding.md R62). -/
def numberOf : List Char → Option Nat
  | [] => none
  | '0' :: 'x' :: [] => none
  | '0' :: 'x' :: rest => digitsFrom 16 0 rest
  | cs => digitsFrom 10 0 cs

/-- The pieces of a text between the separators `sep`. -/
def pieces (sep : Char) : List Char → List (List Char)
  | [] => [[]]
  | c :: rest =>
    if c = sep then [] :: pieces sep rest
    else match pieces sep rest with
      | [] => [[c]]
      | p :: ps => (c :: p) :: ps

/-- A text without the spaces at its ends. -/
def trimSpaces (cs : List Char) : List Char :=
  ((cs.dropWhile (· == ' ')).reverse.dropWhile (· == ' ')).reverse

/-- The value of a name of `table`. -/
def nameValue (table : List (String × Nat)) (cs : List Char) : Option Nat :=
  (table.find? fun e => e.1.toList == cs).map (·.2)

/-- The value of names of bits joined with a bar: the bitwise or of their values (30_encoding.md R62). -/
def joinedNames : List (List Char) → Option Nat
  | [] => some 0
  | p :: ps =>
    match nameValue bitNames (trimSpaces p), joinedNames ps with
    | some a, some b => some (a ||| b)
    | _, _ => none

/-- The value of an operand: a number that fits a register, one code name, or names of bits (30_encoding.md R62). That a name of any
table may stand for any operand is the model's choice (log 23). -/
def operandValue (cs : List Char) : Option Word :=
  match numberOf cs with
  | some n => if n < 2 ^ 64 then some (BitVec.ofNat 64 n) else none
  | none =>
    match nameValue codeNames cs with
    | some n => some (BitVec.ofNat 64 n)
    | none => (joinedNames (pieces '|' cs)).map (BitVec.ofNat 64)

/-- The values of a list of operands. -/
def operandValues : List (List Char) → Option (List Word)
  | [] => some []
  | p :: ps =>
    match operandValue (trimSpaces p), operandValues ps with
    | some v, some vs => some (v :: vs)
    | _, _ => none

/-- The command a mnemonic names (30_encoding.md R50). -/
def commandNamed (cs : List Char) : Option Instr :=
  (opcodeMap.find? fun e => (mnemonicOf e.2).toList == cs).map (·.2)

/-- One line of a host program: its command and operand values, as many as the command reads (30_encoding.md R62). -/
def parseLine (line : List Char) : Option (Instr × List Word) :=
  let body := trimSpaces line
  let operands := trimSpaces (body.dropWhile (· != ' '))
  match commandNamed (body.takeWhile (· != ' ')),
      (if operands.isEmpty then some [] else operandValues (pieces ',' operands)) with
  | some i, some vs => if vs.length = (operandFormat i).length then some (i, vs) else none
  | _, _ => none

/-- The accesses of one line of a host program (30_encoding.md R62). -/
def assembleLine (line : List Char) : Option (List HostOp) :=
  (parseLine line).map fun c => assemble c.1 c.2

end Sys2Proof.Machine
end

