-- ==== Sys2Proof/Safety.lean ====
section
/-! DEFINITION. What counts as a good state and a good run, in the terms the statements use: no fault, no mark, no refusal
(60_exceptions.md R113), the end of a run (R129), the host's duties (R128), the invariants of the state (10_state.md R16, R19, R23 to R28,
R30; 42_frequency_calibrator.md R80; 43_cpu_frequency_switcher.md R93), and runs with the fairness of 00_scope.md R8. -/

namespace Sys2Proof.Machine

/-- No fault, no model-fault mark, no refusal: the premise of every claim (60_exceptions.md R113). -/
def State.good (s : State) : Bool :=
  !s.st.fault && !s.ghost.unwrittenOperand && !s.ghost.unwrittenResult && !s.ghost.refused

/-- The end of a run (60_exceptions.md R129): `PHASE` is IDLE, the state is good, and the host has made its last access, or the run has
reached the reset of a deep-sleep wake, whatever the boot path then does (log 25). -/
def State.runEnded (s : State) : Bool :=
  (s.bench.program.isEmpty || s.bench.runOver) && s.st.phase == .idle && s.good

/-- The final state of a run `x`: the first at which it has ended. "A claim speaks of no step after that reset" (60_exceptions.md
R129). -/
def EndsAt (x : Nat → State) (n : Nat) : Prop :=
  (x n).runEnded = true ∧ ∀ m, m < n → (x m).runEnded = false

/-- The host's duties for one access, as far as the state shows them (60_exceptions.md R128). A `CMD` write: only while `BUSY` = 0, only
a word of the opcode map, with every operand register written and no zero period. A `RES` read: only of a register that has been written,
and only while `BUSY` = 0, after the command completed. Every access: inside the window. What the order of the accesses shows is
`programDuty`. -/
def hostDuty (op : HostOp) (s : State) : Bool :=
  match op with
  | .read offset bytes =>
    match admitted offset bytes with
    | some (.res i) => s.ghost.resW[i] && !s.busy
    | some _ => true
    | none => false
  | .write offset bytes v =>
    match admitted offset bytes with
    | some .cmd =>
      !s.busy && match decodeValue v with
        | .ok i => operandsWritten i s && periodNonzero i s
        | .error _ => false
    | some _ => true
    | none => false
  | .pollStatus => true

/-- The host's duties that the order of its accesses shows (60_exceptions.md R128): after each `CMD` write, `STATUS` is polled until
`BUSY` = 0 before a result is read or `CMD` is written again, and only a result register that the command writes is read (30_encoding.md
R59). `last` is the command written last, and `done` says that its completion has been seen. A host that reads `STATUS` until `BUSY` = 0
by single reads is written with `pollStatus` (log 27). -/
def programDuty (last : Option Instr) (done : Bool) : List HostOp → Bool
  | [] => true
  | .pollStatus :: rest => programDuty last true rest
  | .read offset bytes :: rest =>
    (match admitted offset bytes with
      | some (.res i) => done && (match last with
        | some c => (resultRegs c).contains i
        | none => false)
      | some _ => true
      | none => false) && programDuty last done rest
  | .write offset bytes v :: rest =>
    match admitted offset bytes with
    | some .cmd =>
      done && match decodeValue v with
        | .ok i => programDuty (some i) false rest
        | .error _ => false
    | some _ => programDuty last done rest
    | none => false

/-- What `FAULT`, `CAUSE`, the marks and `PHASE` have to do with each other (10_state.md R14, R16; 60_exceptions.md R111, R115). -/
structure FaultInv (s : State) : Prop where
  cause_zero : s.st.fault = false → s.st.cause = 0
  cause_code : s.st.fault = true → ∃ c : FaultCode, s.st.cause = c.code
  fault_stops : s.st.fault = true → s.st.phase = .faulted
  mark_stops : s.ghost.unwrittenOperand = true ∨ s.ghost.unwrittenResult = true → s.st.phase = .faulted
  stopped_why : s.st.phase = .faulted →
    s.st.fault = true ∨ s.ghost.unwrittenOperand = true ∨ s.ghost.unwrittenResult = true

/-- `SLEEP_STATE` follows `PHASE` (10_state.md R19). -/
structure SleepStateInv (s : State) : Prop where
  light : s.st.sleepState = .lightSleeping ↔ s.st.phase = .lightSleep
  waking : s.st.sleepState = .waking ↔ s.st.phase = .waking
  deep : s.st.sleepState = .deepSleepPending ↔ s.st.phase = .deepSleep

/-- The CPU clock invariants (43_cpu_frequency_switcher.md R93; 10_state.md R21, R23 to R25). -/
structure CpuClockInv (s : State) : Prop where
  crystal : s.clk.xtal = Config.xtal
  active_valid : s.cpu.activeCfg.valid = true
  steady : s.st.phase ≠ .pllWait → s.st.phase ≠ .faulted →
    s.cpu.muxSel = s.cpu.activeCfg.src ∧ s.cpu.div = s.cpu.activeCfg.div
  stopped : s.st.phase = .faulted →
    (s.cpu.muxSel = s.cpu.activeCfg.src ∧ s.cpu.div = s.cpu.activeCfg.div) ∨ (s.cpu.muxSel = .xtal ∧ s.cpu.div = 1)
  warming : s.st.phase = .pllWait → s.cpu.muxSel = .xtal ∧ s.cpu.div = 1
  pending : s.st.phase = .pllWait → s.cpu.pendingCfg.valid = true ∧
    ∃ k, s.cpu.pendingCfg.src.pll? = some k ∧ (s.cpu.pllOf k).en = true
  source_stable : ∀ k, s.cpu.muxSel.pll? = some k → (s.cpu.pllOf k).en = true ∧ (s.cpu.pllOf k).locked = true
  locked_enabled : ∀ k, (s.cpu.pllOf k).locked = true → (s.cpu.pllOf k).en = true

/-- The calibrator's counters during a calibration (42_frequency_calibrator.md R78 to R80, R82): the count is legal, never above its
target, never ahead of the accumulator (one tick behind it once a reference tick has been seen), and the budget is kept. -/
structure CalibratorInv (s : State) : Prop where
  count_pos : s.st.phase = .calibrating → 1 ≤ s.cal.n.toNat
  count_max : s.st.phase = .calibrating → s.cal.n.toNat ≤ Config.calMaxCycles.toNat
  tcnt_le : s.st.phase = .calibrating → s.cal.tcnt.toNat ≤ s.cal.n.toNat
  acc_ge : s.st.phase = .calibrating → s.cal.tcnt.toNat + (if s.cal.refSeen then 1 else 0) ≤ s.cal.acc.toNat
  acc_le : s.st.phase = .calibrating → s.cal.acc.toNat ≤ (Config.calTimeout s.cal.n).toNat

/-- The sleep registers (10_state.md R27, R28, R30, R31; 44_sleep_orchestrator.md R102, R105). -/
structure SleepRegsInv (s : State) : Prop where
  resolved : s.slp.pdRes = resolve s.slp.pdCfg
  awake : s.hostHalted = false → s.slp.domainOff = 0 ∧ s.slp.cpuHalted = false
  halted : s.hostHalted = true → s.slp.cpuHalted = true
  light_domains : s.st.phase = .lightSleep ∨ s.st.phase = .waking → s.slp.domainOff = s.slp.pdRes
  deep_domains : s.st.phase = .deepSleep → s.slp.domainOff = resolve (s.slp.pdCfg ||| pdDig)
  period_nonzero : s.slp.slowClkPeriod ≠ 0
  timer_set : s.st.phase = .lightSleep ∨ s.st.phase = .deepSleep → s.slp.wakeOpt.getLsbD 3 = true →
    s.st.wakeTimeValid = true

/-- The turns of a list of agents, one after another, stopping at the first fault or refusal (00_scope.md R7). -/
def runTurns : List Agent → State → Result
  | [], s => .next s
  | a :: rest, s =>
    match turn a s with
    | .next t => runTurns rest t
    | .fault r => .fault r
    | .refused r => .refused r

/-- An infinite run: `σ` says which agent moves in each state of `x` (00_scope.md R7). -/
def RunOf (σ : Nat → Agent) (x : Nat → State) : Prop :=
  ∀ n, turn (σ n) (x n) = .next (x (n + 1))

/-- Weak fairness of an agent: once enabled and kept enabled, its step is taken (00_scope.md R8). -/
def WeaklyFair (a : Agent) (σ : Nat → Agent) (x : Nat → State) : Prop :=
  ∀ n, (∀ m, n ≤ m → enabled a (x m) = true) → ∃ m, n ≤ m ∧ σ m = a

/-- A run with the fairness of 00_scope.md R8: RefClock, Settle and the sequencer's steps are weakly fair; no other agent is. -/
structure FairRun (σ : Nat → Agent) (x : Nat → State) : Prop where
  run : RunOf σ x
  ref_clock : WeaklyFair .refClock σ x
  settle : WeaklyFair .settle σ x
  sequencer : WeaklyFair .sequencer σ x

/-- The named premise `SlowClockRuns` (00_scope.md R8). -/
def SlowClockRuns (σ : Nat → Agent) (x : Nat → State) : Prop :=
  WeaklyFair .slowClock σ x

/-- The named premise `PllLocks(k)` (00_scope.md R8). -/
def PllLocks (k : Pll) (σ : Nat → Agent) (x : Nat → State) : Prop :=
  WeaklyFair (.pllLock k) σ x

/-- The named premise `TargetTicks` (00_scope.md R8). -/
def TargetTicks (σ : Nat → Agent) (x : Nat → State) : Prop :=
  WeaklyFair .targetClock σ x

end Sys2Proof.Machine
end

