-- ==== Sys2Proof/Certificates/Slice0/Obligations.lean ====
section
/-! DEFINITION. The statements for the provers. Where a statement gives the whole next state, every register, flag, ghost bit and queue it
does not name is unchanged: that equation is the instruction's frame. The block has no byte memory (20_memory.md). -/

namespace Sys2Proof.Expect

open Sys2Proof.Machine

/-- `s` with `PHASE` = `p`. -/
def phase (p : Phase) (s : State) : State :=
  { s with st := { s.st with phase := p } }

/-- `s` with `RES[0]` = `v`, `RES_W[0]` = 1 and `PHASE` = IDLE: a command that returned one value. -/
def result0 (v : Word) (s : State) : State :=
  { s with
    io := { s.io with res := s.io.res.set 0 v }
    ghost := { s.ghost with resW := s.ghost.resW.set 0 true }
    st := { s.st with phase := .idle } }

/-- `s` after a fault of code `code`: `FAULT` = 1, `CAUSE` the first code, `PHASE` = FAULTED, all else unchanged. -/
def fault (code : BitVec 8) (s : State) : State :=
  { s with st := { s.st with
      phase := .faulted
      fault := true
      cause := if s.st.fault = true then s.st.cause else code } }

/-- `s` after the model fault UNWRITTEN_OPERAND: its mark set, `PHASE` = FAULTED, all else unchanged (log 11 for `FAULT`). -/
def unwrittenOperand (s : State) : State :=
  { s with
    st := { s.st with phase := .faulted }
    ghost := { s.ghost with unwrittenOperand := true } }

/-- `i` issued in `s` is the model fault UNWRITTEN_OPERAND: `PHASE` = FAULTED, the mark set, all else unchanged but for `FAULT`, of which
nothing is said. -/
def Unwritten (i : Instr) (s : State) : Prop :=
  ∃ f, exec i s = .next { s with
    st := { s.st with phase := .faulted, fault := f }
    ghost := { s.ghost with unwrittenOperand := true } }

/-- `s` with the host's next access made. -/
def accessed (rest : List HostOp) (s : State) : State :=
  { s with bench := { s.bench with program := rest } }

/-- `s` with the host's next access made and `v` returned by it. -/
def returned (v : Word) (rest : List HostOp) (s : State) : State :=
  { s with bench := { s.bench with program := rest, busData := v } }

/-- The operands of `i` in `s` are written and legal: the command's own rule decides. -/
def Ready (i : Instr) (s : State) : Prop :=
  operandsWritten i s = true ∧ operandsLegal i s = true

/-- The next step of `s` is the issue step of `i`: the host moves next, it is not halted, the block is idle, and the host's next access
is the `CMD` write of `i`'s word. -/
def Issues (i : Instr) (s : State) : Prop :=
  nextAgent s = .host ∧ s.st.phase = .idle ∧ ∃ rest, s.bench.program = .write 0x00 8 (encodeValue i) :: rest

/-- The next step of `s` is the sequencer's, in phase `p`. -/
def Sequences (p : Phase) (s : State) : Prop :=
  nextAgent s = .sequencer ∧ s.st.phase = p

/-- `trunc_64(us << 19) / p` in natural numbers (40_time_converter.md R64). -/
def cyclesOf (us : Word) (p : BitVec 32) : Word :=
  BitVec.ofNat 64 (us.toNat * 2 ^ 19 % 2 ^ 64 / p.toNat)

end Sys2Proof.Expect

open Sys2Proof Sys2Proof.Machine

/-! ### Encoding and the register window -/

/-- R48, R49, R50, R60, R61: the decoder accepts exactly the 17 encoded words, over all 64-bit `CMD` values, and reads each back as the
command it encodes. -/
def Obligations.DecoderAcceptsExactlyEncodedWords : Prop :=
  ∀ (v : Word) (i : Instr), decodeValue v = .ok i ↔ v = encodeValue i

/-- R50, R54 to R56: the word of every command, two illegal neighbours, and the codes, written out from the spec's tables. -/
def Obligations.TableWordsAndCodes : Prop :=
  decodeTableWord 32 0x00000001 = some .init ∧ decodeTableWord 32 0x00000002 = some .applyDefaultClk ∧
  decodeTableWord 32 0x00000003 = some .getXtalFreq ∧ decodeTableWord 32 0x00000004 = some .getSlowSrc ∧
  decodeTableWord 32 0x00000005 = some .setSlowSrc ∧ decodeTableWord 32 0x00000006 = some .getRtcCounter ∧
  decodeTableWord 32 0x00000010 = some .usToCycles ∧ decodeTableWord 32 0x00000011 = some .cyclesToUs ∧
  decodeTableWord 32 0x00000020 = some .calibrate ∧ decodeTableWord 32 0x00000030 = some .setCpuCfg ∧
  decodeTableWord 32 0x00000031 = some .getCpuCfg ∧ decodeTableWord 32 0x00000032 = some .switchToXtal ∧
  decodeTableWord 32 0x00000040 = some .prepareSleep ∧ decodeTableWord 32 0x00000041 = some .setWakeupTime ∧
  decodeTableWord 32 0x00000042 = some .enterLightSleep ∧ decodeTableWord 32 0x00000043 = some .enterDeepSleep ∧
  decodeTableWord 32 0x00000044 = some .postWakeInit ∧
  decodeTableWord 32 0x00000045 = none ∧ decodeTableWord 32 0x00000101 = none ∧
  SlowSrc.rc.code = 0 ∧ SlowSrc.xtal32k.code = 1 ∧ SlowSrc.rcD256.code = 2 ∧
  CalTarget.rtcMux.code = 0 ∧ CalTarget.rc.code = 1 ∧ CalTarget.xtal32k.code = 2 ∧ CalTarget.rcD256.code = 3 ∧
  CpuSrc.xtal.code = 0 ∧ CpuSrc.pll.code = 1 ∧ CpuSrc.rc8m.code = 2 ∧ CpuSrc.apll.code = 3

/-- R43, R114: a host write of `CMD`. In FAULTED it has no effect; while BUSY it raises BUSY (6) whatever the value; in IDLE a value
with a bit of `v[63:32]` or of `RSVD` set, or an opcode in the illegal ranges of R60, raises ILLEGAL_COMMAND (1); every other value is
the word of some command and runs it. First the write alone, in every state, then the host's turn that makes it, which moves on in the
host's list of accesses (log 3) and adds nothing else. -/
def Obligations.CmdWriteFaultedBusyIllegalOrIssued : Prop :=
  ∀ (s : State) (v : Word),
    (s.st.phase = .faulted → writeCmd v s = .next s) ∧
    (s.busy = true → writeCmd v s = .next (Expect.fault 6 s)) ∧
    (s.st.phase = .idle → (v.extractLsb 63 32 ≠ 0 ∨ CmdWord.wellFormed (v.extractLsb 31 0) = false) →
      writeCmd v s = .next (Expect.fault 1 s)) ∧
    (s.st.phase = .idle → v.extractLsb 63 32 = 0 → CmdWord.wellFormed (v.extractLsb 31 0) = true →
      ∃ i, v = encodeValue i ∧ writeCmd v s = exec i s) ∧
    ∀ rest, s.hostHalted = false → s.bench.program = .write 0x00 8 v :: rest →
      (s.st.phase = .faulted → turn .host s = .next (Expect.accessed rest s)) ∧
      (s.busy = true → turn .host s = .next (Expect.fault 6 (Expect.accessed rest s))) ∧
      (s.st.phase = .idle → (v.extractLsb 63 32 ≠ 0 ∨ CmdWord.wellFormed (v.extractLsb 31 0) = false) →
        turn .host s = .next (Expect.fault 1 (Expect.accessed rest s))) ∧
      (s.st.phase = .idle → v.extractLsb 63 32 = 0 → CmdWord.wellFormed (v.extractLsb 31 0) = true →
        ∃ i, v = encodeValue i ∧ turn .host s = exec i (Expect.accessed rest s))

/-- R9, R43, R47: a step runs the decoded command. When the host moves next and its next access is a `CMD` write whose bytes decode to a
command, in IDLE, the step is `exec` of that command, with the schedule and the host's program moved on and nothing else added. The
schedule and the host's program are the model's own (log 1, log 3). -/
def Obligations.StepRunsDecodedCommand : Prop :=
  ∀ (s : State) (v : Word) (i : Instr) (rest : List HostOp) (later : List Agent),
    s.bench.schedule = .host :: later → s.bench.program = .write 0x00 8 v :: rest → s.st.phase = .idle →
    decodeValue v = .ok i → i.wellFormed = true →
    step s = exec i { s with bench := { s.bench with program := rest, schedule := later } }

/-- R39, R44, R113: host reads. `CMD` reads 0, `STATUS` reads the status register, a written `ARG[i]` and a written `RES[i]` read their
value; a read changes nothing but what the host got (log 5) and its place in its program. An `ARG[i]` never written returns some value,
and is no fault. A `RES[i]` that no command has written is the model fault UNWRITTEN_RESULT: its mark is set and `PHASE` becomes FAULTED;
`CAUSE` stays, and so does `FAULT` (log 11). -/
def Obligations.HostReadsOfTheWindow : Prop :=
  ∀ (s : State) (rest : List HostOp) (i : Fin 4), s.hostHalted = false →
    (s.bench.program = .read 0x00 8 :: rest → turn .host s = .next (Expect.returned 0 rest s)) ∧
    (s.bench.program = .read 0x08 8 :: rest → turn .host s = .next (Expect.returned s.status rest s)) ∧
    (s.bench.program = .read (0x10 + 8 * (i.val : Int)) 8 :: rest → s.ghost.argW[i] = true →
      turn .host s = .next (Expect.returned s.io.arg[i] rest s)) ∧
    (s.bench.program = .read (0x10 + 8 * (i.val : Int)) 8 :: rest → s.ghost.argW[i] = false →
      ∃ v, turn .host s = .next (Expect.returned v rest s)) ∧
    (s.bench.program = .read (0x30 + 8 * (i.val : Int)) 8 :: rest → s.ghost.resW[i] = true →
      turn .host s = .next (Expect.returned s.io.res[i] rest s)) ∧
    (s.bench.program = .read (0x30 + 8 * (i.val : Int)) 8 :: rest → s.ghost.resW[i] = false →
      turn .host s = .next { s with
        st := { s.st with phase := .faulted }
        ghost := { s.ghost with unwrittenResult := true }
        bench := { s.bench with program := rest } })

/-- R11, R12, R13, R14, R39, R44: host writes. `ARG[i]` takes the value, in every phase in which the host moves, and is marked written;
writes to `STATUS` and to `RES[i]` have no effect. -/
def Obligations.HostWritesOfTheWindow : Prop :=
  ∀ (s : State) (rest : List HostOp) (i : Fin 4) (v : Word), s.hostHalted = false →
    (s.bench.program = .write (0x10 + 8 * (i.val : Int)) 8 v :: rest →
      turn .host s = .next { s with
        io := { s.io with arg := s.io.arg.set i v }
        ghost := { s.ghost with argW := s.ghost.argW.set i true }
        bench := { s.bench with program := rest } }) ∧
    (s.bench.program = .write 0x08 8 v :: rest → turn .host s = .next (Expect.accessed rest s)) ∧
    (s.bench.program = .write (0x30 + 8 * (i.val : Int)) 8 v :: rest → turn .host s = .next (Expect.accessed rest s))

/-- R41, R113: an access of another width than 8 bytes, misaligned, or outside the 0x50 bytes of the window, sets `REFUSED` and does
nothing else. That it stays next in the host's program, so that the host is stuck, is how the model says "stuck" (log 10). -/
def Obligations.InadmissibleAccessIsRefused : Prop :=
  ∀ (s : State) (rest : List HostOp) (offset : Int) (bytes : Nat) (v : Word), s.hostHalted = false →
    (bytes ≠ 8 ∨ offset < 0 ∨ 0x50 ≤ offset ∨ offset % 8 ≠ 0) →
    (s.bench.program = .read offset bytes :: rest ∨ s.bench.program = .write offset bytes v :: rest) →
    turn .host s = .next { s with ghost := { s.ghost with refused := true } }

/-- R39, R41, R42: the window at `BASE`, whatever `BASE` is, and the little-endian byte image: the byte at offset `8r + k` of the window
is bits `[8k+7:8k]` of its register. That an access names its register by its offset is the model's (log 4), and so is the byte image as
a view of the registers, in which a `RES[i]` never written shows what it holds (log 24). -/
def Obligations.WindowAtBaseIsLittleEndian : Prop :=
  (∀ offset bytes : Nat,
    memRead (Config.base + offset) bytes = .read offset bytes ∧
    ∀ v, memWrite (Config.base + offset) bytes v = .write offset bytes v) ∧
  ∀ (s : State) (i : Fin 4) (k : Nat), k < 8 →
    windowByte s k = some 0 ∧
    windowByte s (0x08 + k) = some (s.status.extractLsb' (8 * k) 8) ∧
    (s.ghost.argW[i] = true → windowByte s (0x10 + 8 * i.val + k) = some (s.io.arg[i].extractLsb' (8 * k) 8)) ∧
    windowByte s (0x30 + 8 * i.val + k) = some (s.io.res[i].extractLsb' (8 * k) 8) ∧
    windowByte s (0x50 + k) = none

/-- R14, R15, R18, R19: every field of `STATUS` in its place, reserved bits 0, `BUSY` exactly outside IDLE and FAULTED. -/
def Obligations.StatusRegisterFields : Prop :=
  ∀ s : State,
    (s.status.getLsbD 0 = true ↔ s.st.phase ≠ .idle ∧ s.st.phase ≠ .faulted) ∧
    s.status.getLsbD 1 = s.st.fault ∧ s.status.getLsbD 2 = s.st.initialised ∧
    s.status.getLsbD 3 = s.st.wakeTimeValid ∧
    (s.status.extractLsb' 4 3).toNat = (match s.st.sleepState with
      | .awake => 0 | .preparing => 1 | .lightSleeping => 2 | .deepSleepPending => 3 | .waking => 4) ∧
    s.status.getLsbD 7 = false ∧
    (s.status.extractLsb' 8 4).toNat = (match s.st.phase with
      | .idle => 0 | .settling => 1 | .calibrating => 2 | .pllWait => 3 | .lightSleep => 4 | .waking => 5
      | .deepSleep => 6 | .faulted => 7) ∧
    s.status.extractLsb' 12 4 = 0 ∧ s.status.extractLsb' 16 8 = s.st.cause ∧ s.status.extractLsb' 24 40 = 0

/-- R109, R46, R62: while the CPU is halted the host has no step. A poll reads `STATUS`, and is repeated exactly while `BUSY` = 1
(that the host's turn then passes is the model's, log 2; so is the poll as one repeated access, log 20). -/
def Obligations.HaltedHostWaitsAndPollRepeats : Prop :=
  ∀ s : State,
    (s.st.phase = .lightSleep ∨ s.st.phase = .waking ∨ s.st.phase = .deepSleep → turn .host s = .next s) ∧
    (∀ rest, s.hostHalted = false → s.bench.program = .pollStatus :: rest → s.busy = true →
      turn .host s = .next (Expect.returned s.status (.pollStatus :: rest) s)) ∧
    (∀ rest, s.bench.program = .pollStatus :: rest → s.busy = false →
      turn .host s = .next (Expect.returned s.status rest s))

/-- R62: an assembled line with one operand for each register the command reads leads, after the host's turns for its `ARG` writes and
its `CMD` write, to the issue of that command, in a state whose `ARG` registers hold the operands in order and are written, and whose
other registers are as before; the poll is what the host does next. The host as its list of accesses is the model's (log 3), and so is the
poll as one entry of that list (log 20). -/
def Obligations.AssembledLineIssuesItsCommand : Prop :=
  ∀ (i : Instr) (operands : List Word) (s : State) (rest : List HostOp),
    operands.length = (operandFormat i).length → s.st.phase = .idle →
    s.bench.program = assemble i operands ++ rest →
    ∃ u, runTurns (List.replicate (operands.length + 1) .host) s = exec i u ∧
      u.bench = { s.bench with program := .pollStatus :: rest } ∧
      u.io.res = s.io.res ∧ u.st = s.st ∧ u.clk = s.clk ∧ u.cpu = s.cpu ∧ u.cal = s.cal ∧ u.slp = s.slp ∧
      u.env = s.env ∧
      (∀ (k : Fin 4) (v : Word), operands[k.val]? = some v → u.io.arg[k] = v ∧ u.ghost.argW[k] = true) ∧
      (∀ k : Fin 4, operands.length ≤ k.val → u.io.arg[k] = s.io.arg[k] ∧ u.ghost.argW[k] = s.ghost.argW[k])

/-! ### Issue checks and faults -/

/-- R51: the operand formats. What each command's registers must hold for it to pass the operand checks: which registers are read, how
wide each field is (every higher bit reserved), and its legal values. -/
def Obligations.OperandFormatsOfTheTable : Prop :=
  ∀ s : State,
    (∀ i ∈ [Instr.init, .applyDefaultClk, .getXtalFreq, .getSlowSrc, .getRtcCounter, .getCpuCfg, .switchToXtal],
      operandsWritten i s = true ∧ operandsLegal i s = true) ∧
    (∀ i ∈ [Instr.setSlowSrc, .prepareSleep, .setWakeupTime, .postWakeInit],
      operandsWritten i s = s.ghost.argW[0]) ∧
    (∀ i ∈ [Instr.usToCycles, .cyclesToUs, .calibrate, .enterDeepSleep],
      operandsWritten i s = (s.ghost.argW[0] && s.ghost.argW[1])) ∧
    operandsWritten .enterLightSleep s = (s.ghost.argW[0] && s.ghost.argW[1] && s.ghost.argW[2]) ∧
    operandsWritten .setCpuCfg s = (s.ghost.argW[0] && s.ghost.argW[1] && s.ghost.argW[2] && s.ghost.argW[3]) ∧
    (operandsLegal .setSlowSrc s = true ↔ s.io.arg[0].toNat ≤ 2) ∧
    (∀ i ∈ [Instr.usToCycles, .cyclesToUs], operandsLegal i s = true ↔ s.io.arg[1].toNat < 2 ^ 32) ∧
    (operandsLegal .calibrate s = true ↔ s.io.arg[0].toNat < 4 ∧ 1 ≤ s.io.arg[1].toNat ∧
      s.io.arg[1].toNat ≤ Config.calMaxCycles.toNat) ∧
    (operandsLegal .setCpuCfg s = true ↔ s.io.arg[0].toNat < 4 ∧ s.io.arg[1].toNat < 2 ^ 32 ∧
      s.io.arg[2].toNat < 2 ^ 32 ∧ s.io.arg[3].toNat < 2 ^ 32) ∧
    (operandsLegal .prepareSleep s = true ↔ s.io.arg[0].toNat < 2 ^ 10) ∧
    operandsLegal .setWakeupTime s = true ∧
    (operandsLegal .enterLightSleep s = true ↔ s.io.arg[0].toNat < 2 ^ 32 ∧ s.io.arg[1].toNat < 2 ^ 32 ∧
      s.io.arg[2].toNat < 2 ^ 32) ∧
    (operandsLegal .enterDeepSleep s = true ↔ s.io.arg[0].toNat < 2 ^ 32 ∧ s.io.arg[1].toNat < 2 ^ 32) ∧
    (operandsLegal .postWakeInit s = true ↔ s.io.arg[0].toNat < 2 ^ 32)

/-- R49, R113, R114: the two checks of every command's issue, in their order, over all commands and states. An unwritten operand
register is the model fault UNWRITTEN_OPERAND (mark set, FAULTED, `CAUSE` as it was; `FAULT` too, log 11), even if another operand is
illegal; with all of them written, an illegal operand raises ILLEGAL_OPERAND (2), before the command's own checks. -/
def Obligations.OperandChecksComeFirst : Prop :=
  ∀ (i : Instr) (s : State),
    (operandsWritten i s = false →
      exec i s = .next (Expect.unwrittenOperand s)) ∧
    (operandsWritten i s = true → operandsLegal i s = false → exec i s = .next (Expect.fault 2 s))

/-- R65, R66, R107, R138: a zero period raises DIVIDE_BY_ZERO (3) in the two conversions and in POST_WAKE_INIT. -/
def Obligations.ZeroPeriodRaisesDivideByZero : Prop :=
  ∀ s : State,
    (∀ i ∈ [Instr.usToCycles, .cyclesToUs], Expect.Ready i s → s.io.arg[1] = 0 →
      exec i s = .next (Expect.fault 3 s)) ∧
    (Expect.Ready .postWakeInit s → s.io.arg[0] = 0 → exec .postWakeInit s = .next (Expect.fault 3 s))

/-- R75, R88, R114: INIT after INIT raises INIT_REPEATED (8); SET_CPU_CFG raises SEQUENCE_ERROR (5) in PREPARING, checked before
validity, and INVALID_FREQUENCY_CONFIG (4) for a configuration that R86 does not allow. -/
def Obligations.InitAndSetCpuCfgChecks : Prop :=
  ∀ s : State,
    (s.st.initialised = true → exec .init s = .next (Expect.fault 8 s)) ∧
    (Expect.Ready .setCpuCfg s → s.st.sleepState = .preparing → exec .setCpuCfg s = .next (Expect.fault 5 s)) ∧
    (Expect.Ready .setCpuCfg s → s.st.sleepState ≠ .preparing →
      (s.io.arg[2].toNat = 0 ∨ Config.cpuDivMax.toNat < s.io.arg[2].toNat ∨
        s.io.arg[3].toNat ≠ s.io.arg[1].toNat / s.io.arg[2].toNat) →
      exec .setCpuCfg s = .next (Expect.fault 4 s))

/-- R102, R105, R114, R139, R140: a sleep entry outside PREPARING raises SEQUENCE_ERROR (5); in PREPARING, one whose mask has the timer
bit while no wakeup time is valid raises WAKEUP_TIME_UNSET (7), before the reject check. -/
def Obligations.SleepEntryChecks : Prop :=
  ∀ s : State, ∀ i ∈ [Instr.enterLightSleep, .enterDeepSleep], Expect.Ready i s →
    (s.st.sleepState ≠ .preparing → exec i s = .next (Expect.fault 5 s)) ∧
    (s.st.sleepState = .preparing → s.io.arg[0].getLsbD 3 = true → s.st.wakeTimeValid = false →
      exec i s = .next (Expect.fault 7 s))

/-- R115: faults are precise. A command that ends in FAULTED has written nothing but `STATUS` fields and a model-fault mark: no
interface register, no internal register, no write bit, nothing of the host's. -/
def Obligations.CommandFaultsArePrecise : Prop :=
  ∀ (i : Instr) (s t : State), exec i s = .next t → t.st.phase = .faulted →
    t.io = s.io ∧ t.clk = s.clk ∧ t.cpu = s.cpu ∧ t.cal = s.cal ∧ t.slp = s.slp ∧ t.env = s.env ∧
    t.bench = s.bench ∧ t.ghost.argW = s.ghost.argW ∧ t.ghost.resW = s.ghost.resW ∧
    t.ghost.refused = s.ghost.refused ∧ t.st.sleepState = s.st.sleepState ∧
    t.st.initialised = s.st.initialised ∧ t.st.wakeTimeValid = s.st.wakeTimeValid

/-- R16, R116: the faulted state is left by no step. From FAULTED every step of every agent stays there, keeps `FAULT`, the first
`CAUSE` and the marks, and changes no result, no clock selection, no PLL enable or frequency, and no sleep or calibrator register; the
counter may tick, a lock may rise and not fall, `ARG` may be written, the inputs may change. -/
def Obligations.FaultedStateIsNeverLeft : Prop :=
  ∀ s t : State, step s = .next t → s.st.phase = .faulted →
    t.st = s.st ∧ t.io.res = s.io.res ∧ t.clk.slowClkSel = s.clk.slowClkSel ∧ t.clk.xtal = s.clk.xtal ∧
    t.cpu.activeCfg = s.cpu.activeCfg ∧ t.cpu.muxSel = s.cpu.muxSel ∧ t.cpu.div = s.cpu.div ∧
    t.cpu.pendingCfg = s.cpu.pendingCfg ∧
    (∀ k, (t.cpu.pllOf k).en = (s.cpu.pllOf k).en ∧ (t.cpu.pllOf k).freq = (s.cpu.pllOf k).freq ∧
      ((s.cpu.pllOf k).locked = true → (t.cpu.pllOf k).locked = true)) ∧
    t.cal = s.cal ∧ t.slp = s.slp ∧ t.ghost.resW = s.ghost.resW ∧
    (s.ghost.unwrittenOperand = true → t.ghost.unwrittenOperand = true) ∧
    (s.ghost.unwrittenResult = true → t.ghost.unwrittenResult = true) ∧
    (t.clk.rtcCounter = s.clk.rtcCounter ∨ t.clk.rtcCounter = s.clk.rtcCounter + 1)

/-- R128, R49, R111, R114: a host that keeps its duties. When the host's access meets `hostDuty` (not busy, a word of the map, operands
written, no zero period; results read only once written and while not busy) and the state is good, the host's turn sets no mark and no
refusal, and raises none of ILLEGAL_COMMAND (1), DIVIDE_BY_ZERO (3) and BUSY (6). ILLEGAL_OPERAND (2) stays possible: R128 lists no duty
that rules it out. -/
def Obligations.DutifulHostRaisesOnlyOwnChecks : Prop :=
  ∀ (s t : State) (op : HostOp) (rest : List HostOp), s.good = true → s.bench.program = op :: rest →
    hostDuty op s = true → turn .host s = .next t →
    t.ghost.unwrittenOperand = false ∧ t.ghost.unwrittenResult = false ∧ t.ghost.refused = false ∧
    (t.st.fault = true → t.st.cause = 2 ∨ t.st.cause = 4 ∨ t.st.cause = 5 ∨ t.st.cause = 7 ∨ t.st.cause = 8)

/-! ### What each command does -/

/-- R73, R74, R75: SET_SLOW_SRC selects the source its operand names, APPLY_DEFAULT_CLK the internal RC oscillator, INIT the same and
marks the block initialised; each then settles, and writes nothing else. -/
def Obligations.SlowClockCommandsSelectAndSettle : Prop :=
  ∀ s : State,
    (∀ src : SlowSrc, s.ghost.argW[0] = true → s.io.arg[0] = zext64 src.code →
      exec .setSlowSrc s = .next { s with
        clk := { s.clk with slowClkSel := src }
        st := { s.st with phase := .settling } }) ∧
    exec .applyDefaultClk s = .next { s with
      clk := { s.clk with slowClkSel := .rc }
      st := { s.st with phase := .settling } } ∧
    (s.st.initialised = false → exec .init s = .next { s with
      clk := { s.clk with slowClkSel := .rc }
      st := { s.st with initialised := true, phase := .settling } })

/-- R71, R72, R76: the three reads of the clock source unit complete with one value in `RES[0]` and write nothing else. -/
def Obligations.ClockSourceReadsReturnTheirValue : Prop :=
  ∀ s : State,
    exec .getXtalFreq s = .next (Expect.result0 (match s.clk.xtal with | .mhz32 => 32 | .mhz40 => 40) s) ∧
    exec .getSlowSrc s = .next (Expect.result0
      (match s.clk.slowClkSel with | .rc => 0 | .xtal32k => 1 | .rcD256 => 2) s) ∧
    exec .getRtcCounter s = .next (Expect.result0 s.clk.rtcCounter s)

/-- R65, R64: US_TO_CYCLES completes with `trunc_64(us << 19) / p`, for every duration and every non-zero period; a zero period raises
DIVIDE_BY_ZERO (3), a reserved bit of `ARG[1]` ILLEGAL_OPERAND (2), and an operand never written is UNWRITTEN_OPERAND. -/
def Obligations.UsToCyclesDividesTheShiftedDuration : Prop :=
  ∀ s : State,
    (∀ (us : Word) (p : BitVec 32), s.ghost.argW[0] = true → s.ghost.argW[1] = true →
      s.io.arg[0] = us → s.io.arg[1] = zext64 p → p ≠ 0 →
      exec .usToCycles s = .next (Expect.result0 (BitVec.ofNat 64 (us.toNat * 2 ^ 19 % 2 ^ 64 / p.toNat)) s)) ∧
    (s.ghost.argW[0] = true → s.ghost.argW[1] = true → s.io.arg[1] = 0 →
      exec .usToCycles s = .next (Expect.fault 3 s)) ∧
    (s.ghost.argW[0] = true → s.ghost.argW[1] = true → s.io.arg[1].extractLsb 63 32 ≠ 0 →
      exec .usToCycles s = .next (Expect.fault 2 s)) ∧
    (s.ghost.argW[0] = false ∨ s.ghost.argW[1] = false → Expect.Unwritten .usToCycles s)

/-- R66, R64: CYCLES_TO_US completes with `trunc_64(c * p) >> 19`, for every count and every non-zero period; a zero period raises
DIVIDE_BY_ZERO (3), a reserved bit of `ARG[1]` ILLEGAL_OPERAND (2), and an operand never written is UNWRITTEN_OPERAND. -/
def Obligations.CyclesToUsShiftsTheProduct : Prop :=
  ∀ s : State,
    (∀ (c : Word) (p : BitVec 32), s.ghost.argW[0] = true → s.ghost.argW[1] = true →
      s.io.arg[0] = c → s.io.arg[1] = zext64 p → p ≠ 0 →
      exec .cyclesToUs s = .next (Expect.result0 (BitVec.ofNat 64 (c.toNat * p.toNat % 2 ^ 64 / 2 ^ 19)) s)) ∧
    (s.ghost.argW[0] = true → s.ghost.argW[1] = true → s.io.arg[1] = 0 →
      exec .cyclesToUs s = .next (Expect.fault 3 s)) ∧
    (s.ghost.argW[0] = true → s.ghost.argW[1] = true → s.io.arg[1].extractLsb 63 32 ≠ 0 →
      exec .cyclesToUs s = .next (Expect.fault 2 s)) ∧
    (s.ghost.argW[0] = false ∨ s.ghost.argW[1] = false → Expect.Unwritten .cyclesToUs s)

/-- R78: CALIBRATE latches its target and count, starts from zero counters, and holds in CALIBRATING; it writes nothing else. -/
def Obligations.CalibrateStartsFromZero : Prop :=
  ∀ (s : State) (tgt : CalTarget) (n : BitVec 32), s.ghost.argW[0] = true → s.ghost.argW[1] = true →
    s.io.arg[0] = zext64 tgt.code → s.io.arg[1] = zext64 n →
    1 ≤ n.toNat → n.toNat ≤ Config.calMaxCycles.toNat →
    exec .calibrate s = .next { s with
      cal := { target := tgt, n := n, tcnt := 0, acc := 0, refSeen := false }
      st := { s.st with phase := .calibrating } }

/-- R88: SET_CPU_CFG to a source that needs no warm-up switches multiplexer, divider and record at once and completes. -/
def Obligations.SetCpuCfgSwitchesDirectly : Prop :=
  ∀ (s : State) (cfg : CpuCfg), operandsWritten .setCpuCfg s = true →
    s.io.arg[0] = zext64 cfg.src.code → s.io.arg[1] = zext64 cfg.srcMhz → s.io.arg[2] = zext64 cfg.div →
    s.io.arg[3] = zext64 cfg.resMhz → s.st.sleepState ≠ .preparing → cfg.valid = true →
    (cfg.src = .xtal ∨ cfg.src = .rc8m) →
    exec .setCpuCfg s = .next { s with
      cpu := { s.cpu with muxSel := cfg.src, div := cfg.div, activeCfg := cfg }
      st := { s.st with phase := .idle } }

/-- R87, R88: SET_CPU_CFG to a PLL source moves the CPU to the crystal at divider 1, enables and reprograms that PLL with its lock
down, keeps the configuration pending, and holds in PLL_WAIT; the other PLL and the record are unchanged. -/
def Obligations.SetCpuCfgWarmsUpThePll : Prop :=
  ∀ (s : State) (cfg : CpuCfg), operandsWritten .setCpuCfg s = true →
    s.io.arg[0] = zext64 cfg.src.code → s.io.arg[1] = zext64 cfg.srcMhz → s.io.arg[2] = zext64 cfg.div →
    s.io.arg[3] = zext64 cfg.resMhz → s.st.sleepState ≠ .preparing → cfg.valid = true →
    (cfg.src = .pll → exec .setCpuCfg s = .next { s with
      cpu := { s.cpu with muxSel := .xtal, div := 1, pendingCfg := cfg,
                          pll := { en := true, freq := cfg.srcMhz, locked := false } }
      st := { s.st with phase := .pllWait } }) ∧
    (cfg.src = .apll → exec .setCpuCfg s = .next { s with
      cpu := { s.cpu with muxSel := .xtal, div := 1, pendingCfg := cfg,
                          apll := { en := true, freq := cfg.srcMhz, locked := false } }
      st := { s.st with phase := .pllWait } })

/-- R91: GET_CPU_CFG completes with the active record in `RES[0..3]` and writes nothing else. -/
def Obligations.GetCpuCfgReturnsTheRecord : Prop :=
  ∀ s : State, exec .getCpuCfg s = .next { s with
    io := { s.io with res := #v[(match s.cpu.activeCfg.src with | .xtal => 0 | .pll => 1 | .rc8m => 2 | .apll => 3),
      zext64 s.cpu.activeCfg.srcMhz, zext64 s.cpu.activeCfg.div, zext64 s.cpu.activeCfg.resMhz] }
    ghost := { s.ghost with resW := #v[true, true, true, true] }
    st := { s.st with phase := .idle } }

/-- R92: SWITCH_TO_XTAL puts multiplexer, divider and record on the crystal at divider 1 and completes; it is legal in every sleep
state, and the PLLs are unchanged. -/
def Obligations.SwitchToXtalIsTheSafeState : Prop :=
  ∀ s : State, exec .switchToXtal s = .next { s with
    cpu := { s.cpu with muxSel := .xtal, div := 1,
                        activeCfg := { src := .xtal, srcMhz := s.clk.xtal.mhz, div := 1, resMhz := s.clk.xtal.mhz } }
    st := { s.st with phase := .idle } }

/-- R97, R98: PREPARE_SLEEP programs the flags and their resolution, loads both timing constants with the current period, goes to
PREPARING and completes; no domain is powered down. The period is not 0 (R30, an invariant below). -/
def Obligations.PrepareSleepProgramsFlagsAndTimings : Prop :=
  ∀ (s : State) (f : PowerFlags), s.ghost.argW[0] = true → s.io.arg[0] = zext64 f → s.slp.slowClkPeriod ≠ 0 →
    exec .prepareSleep s = .next { s with
      slp := { s.slp with
        pdCfg := f
        pdRes := resolve f
        bufWait := Expect.cyclesOf (Config.bufWaitUs (resolve f)) s.slp.slowClkPeriod
        wakeupDelay := Expect.cyclesOf (Config.wakeupDelayUs (resolve f)) s.slp.slowClkPeriod }
      st := { s.st with sleepState := .preparing, phase := .idle } }

/-- R99: SET_WAKEUP_TIME sets the target and its valid bit and completes, for every target, passed or not, and in every sleep state;
an operand never written is UNWRITTEN_OPERAND. -/
def Obligations.SetWakeupTimeSetsTargetAndValid : Prop :=
  ∀ s : State,
    (s.ghost.argW[0] = true →
      exec .setWakeupTime s = .next { s with
        slp := { s.slp with wakeupTime := s.io.arg[0] }
        st := { s.st with wakeTimeValid := true, phase := .idle } }) ∧
    (s.ghost.argW[0] = false → Expect.Unwritten .setWakeupTime s)

/-- R102: ENTER_LIGHT_SLEEP in PREPARING with no live reject condition commits: the masks and the policy are latched, the resolved
domains power down, the CPU halts, and the block holds in LIGHT_SLEEP; its outcome, if it ends, is Woke (R110; the outcome
as a function: log 26). -/
def Obligations.EnterLightSleepCommits : Prop :=
  ∀ (s : State) (w r m : BitVec 32), operandsWritten .enterLightSleep s = true →
    s.io.arg[0] = zext64 w → s.io.arg[1] = zext64 r → s.io.arg[2] = zext64 m → s.st.sleepState = .preparing →
    (w.getLsbD 3 = true → s.st.wakeTimeValid = true) → r &&& s.env.rejectCond = 0 →
    lightSleepResult w r s = .ok .woke ∧ exec .enterLightSleep s = .next { s with
      slp := { s.slp with wakeOpt := w, rejectOpt := r, memPolicy := m, domainOff := s.slp.pdRes, cpuHalted := true }
      st := { s.st with sleepState := .lightSleeping, phase := .lightSleep } }

/-- R105: ENTER_DEEP_SLEEP in PREPARING with no live reject condition commits: the masks are latched, the domains of the flags with
`PD_DIG` forced power down, the CPU halts, and the block holds in DEEP_SLEEP; no result is written, and its outcome, if it ends, is
NoReturn (R110; the outcome as a function: log 26). -/
def Obligations.EnterDeepSleepCommits : Prop :=
  ∀ (s : State) (w r : BitVec 32), operandsWritten .enterDeepSleep s = true →
    s.io.arg[0] = zext64 w → s.io.arg[1] = zext64 r → s.st.sleepState = .preparing →
    (w.getLsbD 3 = true → s.st.wakeTimeValid = true) → r &&& s.env.rejectCond = 0 →
    deepSleepResult w r s = .ok .noReturn ∧ exec .enterDeepSleep s = .next { s with
      slp := { s.slp with wakeOpt := w, rejectOpt := r, domainOff := resolve (s.slp.pdCfg ||| 0x001), cpuHalted := true }
      st := { s.st with sleepState := .deepSleepPending, phase := .deepSleep } }

/-- R101, R102, R105, R110: a sleep entry with a live reject condition completes with exactly the mask of the matching conditions,
goes back to AWAKE, and changes nothing else: not the CPU clock, not the counter, not a sleep register. Its outcome is Rejected of that
mask, and a host that reads it from the result register of a light sleep reads just that (the outcome as a
function: log 26). -/
def Obligations.RejectedSleepReturnsTheMatchingMask : Prop :=
  ∀ (s : State) (w r : BitVec 32), ∀ i ∈ [Instr.enterLightSleep, .enterDeepSleep], Expect.Ready i s →
    s.io.arg[0] = zext64 w → s.io.arg[1] = zext64 r → s.st.sleepState = .preparing →
    (w.getLsbD 3 = true → s.st.wakeTimeValid = true) → r &&& s.env.rejectCond ≠ 0 →
    lightSleepResult w r s = .ok (.rejected (r &&& s.env.rejectCond)) ∧
    deepSleepResult w r s = .ok (.rejected (r &&& s.env.rejectCond)) ∧
    lightSleepReading (zext64 (r &&& s.env.rejectCond)) = .rejected (r &&& s.env.rejectCond) ∧
    exec i s = .next { s with
      io := { s.io with res := s.io.res.set 0 (zext64 (r &&& s.env.rejectCond)) }
      ghost := { s.ghost with resW := s.ghost.resW.set 0 true }
      st := { s.st with sleepState := .awake, phase := .idle } }

/-- R107: POST_WAKE_INIT with a non-zero period stores it, reloads both timing constants with it for the flags already resolved, and
completes. -/
def Obligations.PostWakeInitReloadsTimings : Prop :=
  ∀ (s : State) (p : BitVec 32), s.ghost.argW[0] = true → s.io.arg[0] = zext64 p → p ≠ 0 →
    exec .postWakeInit s = .next { s with
      slp := { s.slp with
        slowClkPeriod := p
        bufWait := Expect.cyclesOf (Config.bufWaitUs s.slp.pdRes) p
        wakeupDelay := Expect.cyclesOf (Config.wakeupDelayUs s.slp.pdRes) p }
      st := { s.st with phase := .idle } }

/-! ### Functions of the rules -/

/-- R96: `Resolve`, bit by bit: the policy bit is cleared; with it set, both RTC memory bits are `f[8] | f[0]`; without it they are as
given; every other bit is as given. -/
def Obligations.ResolveFollowsTheCpu : Prop :=
  ∀ (f : PowerFlags) (k : Nat), k < 10 →
    (resolve f).getLsbD k =
      if k = 4 then false
      else if (k = 2 ∨ k = 3) ∧ f.getLsbD 4 = true then f.getLsbD 8 || f.getLsbD 0
      else f.getLsbD k

/-- R83: `Period(acc, n)` is `(acc * 2^19) / (XTAL * n)` in exact integers, truncated, or 0 where that is 0 or 2^32 or more. -/
def Obligations.PeriodIsTheTruncatedMean : Prop :=
  ∀ (acc : Word) (n : BitVec 32) (x : Crystal),
    (period x acc n).toNat =
      let q := acc.toNat * 2 ^ 19 / ((match x with | .mhz32 => 32 | .mhz40 => 40) * n.toNat)
      if q < 2 ^ 32 then q else 0

/-- R86: a configuration is valid exactly when its divider is from 1 to `CPU_DIV_MAX` and its resulting frequency is the truncated
quotient, for every source and every source frequency. -/
def Obligations.ValidConfigurationInvariant : Prop :=
  ∀ c : CpuCfg, c.valid = true ↔
    1 ≤ c.div.toNat ∧ c.div.toNat ≤ Config.cpuDivMax.toNat ∧ c.resMhz.toNat = c.srcMhz.toNat / c.div.toNat

/-- R100: the wake condition: the timer source where bit 3 is set and the counter has reached the target, or an asserting external
source of another bit of the mask; input bit 3 is ignored. -/
def Obligations.WakeConditionOfAMask : Prop :=
  ∀ (s : State) (w : BitVec 32), s.wakeLive w = true ↔
    (w.getLsbD 3 = true ∧ s.slp.wakeupTime.toNat ≤ s.clk.rtcCounter.toNat) ∨
    ∃ k, k < 32 ∧ k ≠ 3 ∧ w.getLsbD k = true ∧ s.env.wakeCond.getLsbD k = true

/-- R67: the round trips of the two conversions and their error bounds, in both directions, and the rule's example, in which the error is
more than one cycle's worth of microseconds. -/
def Obligations.ConversionRoundTripBounds : Prop :=
  (∀ (us : Word) (p : BitVec 32), p ≠ 0 → us.toNat < 2 ^ 45 →
    let u := slowCyclesToUs (usToSlowCycles us p) p
    u.toNat ≤ us.toNat ∧ 2 ^ 19 * (us.toNat - u.toNat) < p.toNat + 2 ^ 19) ∧
  (∀ (c : Word) (p : BitVec 32), p ≠ 0 → c.toNat * p.toNat < 2 ^ 64 →
    let c' := usToSlowCycles (slowCyclesToUs c p) p
    c'.toNat ≤ c.toNat ∧ p.toNat * (c.toNat - c'.toNat) < 2 ^ 19 + p.toNat) ∧
  usToSlowCycles 13 3495253 = 1 ∧ slowCyclesToUs 1 3495253 = 6

/-- R68, R64: each conversion is exact on its domain and on no input outside it; outside, it is the wrapped value. -/
def Obligations.ConversionsExactOnTheirDomains : Prop :=
  (∀ (us : Word) (p : BitVec 32), p ≠ 0 →
    ((usToSlowCycles us p).toNat = us.toNat * 2 ^ 19 / p.toNat ↔ us.toNat < 2 ^ 45) ∧
    (usToSlowCycles us p).toNat = us.toNat * 2 ^ 19 % 2 ^ 64 / p.toNat) ∧
  (∀ (c : Word) (p : BitVec 32),
    ((slowCyclesToUs c p).toNat = c.toNat * p.toNat / 2 ^ 19 ↔ c.toNat * p.toNat < 2 ^ 64) ∧
    (slowCyclesToUs c p).toNat = c.toNat * p.toNat % 2 ^ 64 / 2 ^ 19)

/-- R80, R81, R84: where a calibration reaches its count, the Done step's result is 0 exactly when the period is unrepresentable (the
quotient is 2^32 or more), and otherwise lies from 13107 to 2^32 - 1. -/
def Obligations.FinishedCalibrationResultRange : Prop :=
  ∀ s t : State, CalibratorInv s → s.st.phase = .calibrating → s.cal.tcnt = s.cal.n →
    turn .sequencer s = .next t →
    (t.io.res[0] = 0 ↔ 2 ^ 32 ≤ s.cal.acc.toNat * 2 ^ 19 / (s.clk.xtal.mhz.toNat * s.cal.n.toNat)) ∧
    (t.io.res[0] ≠ 0 → 13107 ≤ t.io.res[0].toNat ∧ t.io.res[0].toNat < 2 ^ 32)

/-! ### The steps of the environment and the sequencer -/

/-- R33, R69, R70, R89: a slow-clock tick in every phase unless the counter is at 2^64 - 1, the end of a settling delay, the lock of an
enabled PLL, and a change of the inputs, each with all else unchanged. That a disabled agent's turn passes is the model's (log 2). -/
def Obligations.TicksSettleLockAndConditions : Prop :=
  ∀ s : State,
    (s.clk.rtcCounter.toNat < 2 ^ 64 - 1 →
      turn .slowClock s = .next { s with clk := { s.clk with rtcCounter := s.clk.rtcCounter + 1 } }) ∧
    (s.clk.rtcCounter.toNat = 2 ^ 64 - 1 → turn .slowClock s = .next s) ∧
    (s.st.phase = .settling → turn .settle s = .next (Expect.phase .idle s)) ∧
    (s.st.phase ≠ .settling → turn .settle s = .next s) ∧
    (s.cpu.pll.en = true → s.cpu.pll.locked = false → turn (.pllLock .pll) s =
      .next { s with cpu := { s.cpu with pll := { s.cpu.pll with locked := true } } }) ∧
    (s.cpu.apll.en = true → s.cpu.apll.locked = false → turn (.pllLock .apll) s =
      .next { s with cpu := { s.cpu with apll := { s.cpu.apll with locked := true } } }) ∧
    (s.cpu.pll.en = false ∨ s.cpu.pll.locked = true → turn (.pllLock .pll) s = .next s) ∧
    (s.cpu.apll.en = false ∨ s.cpu.apll.locked = true → turn (.pllLock .apll) s = .next s) ∧
    (∀ w r, turn (.conditions w r) s = .next { s with env := { wakeCond := w, rejectCond := r } })

/-- R79, R80: a reference tick counts while the calibration is within its count and budget, and marks itself seen; a target tick counts
only after a reference tick since the last one. -/
def Obligations.CalibratorTicks : Prop :=
  ∀ s : State,
    (s.st.phase = .calibrating → s.cal.tcnt.toNat < s.cal.n.toNat →
      s.cal.acc.toNat < (Config.calTimeout s.cal.n).toNat →
      turn .refClock s = .next { s with cal := { s.cal with acc := s.cal.acc + 1, refSeen := true } } ∧
      (s.cal.refSeen = true →
        turn .targetClock s = .next { s with cal := { s.cal with tcnt := s.cal.tcnt + 1, refSeen := false } }) ∧
      (s.cal.refSeen = false → turn .targetClock s = .next s)) ∧
    ((s.st.phase ≠ .calibrating ∨ s.cal.n.toNat ≤ s.cal.tcnt.toNat ∨
      (Config.calTimeout s.cal.n).toNat ≤ s.cal.acc.toNat) →
      turn .refClock s = .next s ∧ turn .targetClock s = .next s)

/-- R81, R82, R112: the Done step completes with the period, the Timeout step with the sentinel 0, which is no fault; before either,
the sequencer has no step. -/
def Obligations.CalibrationDoneAndTimeout : Prop :=
  ∀ s : State, s.st.phase = .calibrating →
    (s.cal.tcnt = s.cal.n →
      turn .sequencer s = .next (Expect.result0 (zext64 (period s.clk.xtal s.cal.acc s.cal.n)) s)) ∧
    (s.cal.tcnt.toNat < s.cal.n.toNat → s.cal.acc = Config.calTimeout s.cal.n →
      turn .sequencer s = .next (Expect.result0 0 s)) ∧
    (s.cal.tcnt.toNat < s.cal.n.toNat → s.cal.acc ≠ Config.calTimeout s.cal.n → turn .sequencer s = .next s)

/-- R90: when the pending PLL has locked, multiplexer, divider and record take the pending configuration and the command completes;
until then the command holds. -/
def Obligations.PllReadyAppliesPendingConfiguration : Prop :=
  ∀ (s : State) (k : Pll), s.st.phase = .pllWait → s.cpu.pendingCfg.src.pll? = some k →
    ((s.cpu.pllOf k).locked = true → turn .sequencer s = .next { s with
      cpu := { s.cpu with muxSel := s.cpu.pendingCfg.src, div := s.cpu.pendingCfg.div, activeCfg := s.cpu.pendingCfg }
      st := { s.st with phase := .idle } }) ∧
    ((s.cpu.pllOf k).locked = false → turn .sequencer s = .next s)

/-- R103, R104, R109: a light sleep goes to WAKING exactly when its wake condition is live, and from WAKING the restore step powers the
domains up, ends the CPU halt, uses up the wakeup time and completes with `RES[0]` = 0. -/
def Obligations.LightSleepWakesAndRestores : Prop :=
  ∀ s : State,
    (s.st.phase = .lightSleep → s.wakeLive s.slp.wakeOpt = true → turn .sequencer s = .next { s with
      st := { s.st with sleepState := .waking, phase := .waking } }) ∧
    (s.st.phase = .lightSleep → s.wakeLive s.slp.wakeOpt = false → turn .sequencer s = .next s) ∧
    (s.st.phase = .waking → turn .sequencer s = .next { s with
      io := { s.io with res := s.io.res.set 0 0 }
      ghost := { s.ghost with resW := s.ghost.resW.set 0 true }
      slp := { s.slp with domainOff := 0, cpuHalted := false }
      st := { s.st with wakeTimeValid := false, sleepState := .awake, phase := .idle } })

/-- R106, R132, R37, R134, R109, R110, R129: a deep-sleep wake resets the block: every element R37 gives a value takes it, the write bits
and marks are cleared, `REFUSED` survives, the inputs go on (log 16), and the run ends there unless it was refused. Until then nothing ends
the sleep: every other turn of any agent stays in DEEP_SLEEP, keeps every `ARG` and `RES` register, and makes no host access, so that the
host's next access is after a reset (NoReturn). The elements R37 leaves unspecified are not spoken of (log 8); that the host goes on with
its boot path and that a turn without a step passes are the model's (log 12, log 2), and so is
the bit by which the run's end is seen (log 25). -/
def Obligations.DeepSleepWakeResetsTheBlock : Prop :=
  ∀ s : State, s.st.phase = .deepSleep →
    (s.wakeLive s.slp.wakeOpt = false → turn .sequencer s = .next s) ∧
    (s.wakeLive s.slp.wakeOpt = true → ∃ t, turn .sequencer s = .next t ∧
      t.st = State.reset.st ∧ t.clk = State.reset.clk ∧ t.cal = State.reset.cal ∧ t.env = s.env ∧
      t.cpu.activeCfg = State.reset.cpu.activeCfg ∧ t.cpu.muxSel = .xtal ∧ t.cpu.div = 1 ∧
      (∀ k, (t.cpu.pllOf k).en = false ∧ (t.cpu.pllOf k).locked = false) ∧
      t.slp.pdCfg = 0 ∧ t.slp.pdRes = 0 ∧ t.slp.domainOff = 0 ∧ t.slp.cpuHalted = false ∧
      t.slp.slowClkPeriod = Config.defaultPeriod ∧ t.slp.wakeOpt = 0 ∧ t.slp.rejectOpt = 0 ∧ t.slp.memPolicy = 0 ∧
      (∀ i : Fin 4, t.ghost.argW[i] = false ∧ t.ghost.resW[i] = false) ∧
      t.ghost.unwrittenOperand = false ∧ t.ghost.unwrittenResult = false ∧ t.ghost.refused = s.ghost.refused ∧
      t.bench.program = s.bench.bootProgram ∧ (s.ghost.refused = false → t.runEnded = true)) ∧
    (∀ a t, turn a s = .next t → (a ≠ .sequencer ∨ s.wakeLive s.slp.wakeOpt = false) →
      t.st.phase = .deepSleep ∧ t.io = s.io ∧ t.ghost = s.ghost ∧ t.bench = s.bench)

/-! ### The state after reset, and invariants every step keeps -/

/-- R37, R130: what the spec gives for the state after reset. No element that R37 leaves unspecified, and no input, is spoken of. -/
def Obligations.ResetValuesOfTheSpec : Prop :=
  State.reset.status = 0 ∧ State.reset.st.phase = .idle ∧ State.reset.st.sleepState = .awake ∧
  State.reset.st.cause = 0 ∧ State.reset.clk = { slowClkSel := .rc, xtal := Config.xtal, rtcCounter := 0 } ∧
  State.reset.cpu.activeCfg = { src := .xtal, srcMhz := Config.xtal.mhz, div := 1, resMhz := Config.xtal.mhz } ∧
  State.reset.cpu.muxSel = .xtal ∧ State.reset.cpu.div = 1 ∧
  (∀ k, (State.reset.cpu.pllOf k).en = false ∧ (State.reset.cpu.pllOf k).locked = false) ∧
  State.reset.cal = { target := .rtcMux, n := 0, tcnt := 0, acc := 0, refSeen := false } ∧
  State.reset.slp.pdCfg = 0 ∧ State.reset.slp.pdRes = 0 ∧ State.reset.slp.domainOff = 0 ∧
  State.reset.slp.cpuHalted = false ∧ State.reset.slp.slowClkPeriod = Config.defaultPeriod ∧
  State.reset.slp.wakeOpt = 0 ∧ State.reset.slp.rejectOpt = 0 ∧ State.reset.slp.memPolicy = 0 ∧
  (∀ i : Fin 4, State.reset.ghost.argW[i] = false ∧ State.reset.ghost.resW[i] = false) ∧ State.reset.good = true

/-- R37, R93 ("Reset establishes each one"): the state after reset meets the five invariants below. -/
def Obligations.ResetMeetsEveryInvariant : Prop :=
  FaultInv State.reset ∧ SleepStateInv State.reset ∧ CpuClockInv State.reset ∧ CalibratorInv State.reset ∧
  SleepRegsInv State.reset

/-- R14, R16, R115, R116: every step keeps the relation of `FAULT`, `CAUSE`, the marks and `PHASE`. -/
def Obligations.EveryStepKeepsFaultInvariant : Prop :=
  ∀ s t : State, FaultInv s → step s = .next t → FaultInv t

/-- R19: every step keeps `SLEEP_STATE` in step with `PHASE`. -/
def Obligations.EveryStepKeepsSleepStateInvariant : Prop :=
  ∀ s t : State, SleepStateInv s → step s = .next t → SleepStateInv t

/-- R23, R24, R25, R93: every step keeps the CPU clock invariants: the record is valid, the multiplexer agrees with it outside
PLL_WAIT, and the CPU never runs from a PLL that is not enabled and locked. -/
def Obligations.EveryStepKeepsCpuClockInvariant : Prop :=
  ∀ s t : State, CpuClockInv s → step s = .next t → CpuClockInv t

/-- R78, R79, R80, R82: every step keeps the calibrator's counters within the count, the budget and each other. -/
def Obligations.EveryStepKeepsCalibratorInvariant : Prop :=
  ∀ s t : State, CalibratorInv s → step s = .next t → CalibratorInv t

/-- R27, R28, R30, R102, R104, R105: every step keeps the sleep registers' invariants: no domain is off and the CPU is not halted
outside a sleep, the resolved flags are those of the programmed flags, the period is never 0. -/
def Obligations.EveryStepKeepsSleepRegsInvariant : Prop :=
  ∀ s t : State, SleepRegsInv s → step s = .next t → SleepRegsInv t

/-- R22, R69: the counter never falls but by the reset of a deep-sleep wake, and rises by at most one a step. -/
def Obligations.CounterIsMonotonicUntilReset : Prop :=
  ∀ s t : State, step s = .next t →
    (t.clk.rtcCounter.toNat = s.clk.rtcCounter.toNat ∨ t.clk.rtcCounter.toNat = s.clk.rtcCounter.toNat + 1) ∨
    (Expect.Sequences .deepSleep s ∧ t.clk.rtcCounter = 0)

/-- R11, R17, R20, R23, R30, R113, R132: which steps may write. `ARG` changes only by the host, `INITIALISED` only by INIT, the slow-clock
selector only by its three commands, `ACTIVE_CFG` only by SET_CPU_CFG, SWITCH_TO_XTAL and the PLL-ready step, `SLOW_CLK_PERIOD` only by
POST_WAKE_INIT, each apart from the reset of a deep-sleep wake; `REFUSED` is never cleared. -/
def Obligations.OnlyTheseStepsWrite : Prop :=
  ∀ s t : State, step s = .next t →
    (t.io.arg ≠ s.io.arg → nextAgent s = .host ∨ Expect.Sequences .deepSleep s) ∧
    (t.st.initialised ≠ s.st.initialised → Expect.Issues .init s ∨ Expect.Sequences .deepSleep s) ∧
    (t.clk.slowClkSel ≠ s.clk.slowClkSel →
      Expect.Issues .init s ∨ Expect.Issues .applyDefaultClk s ∨ Expect.Issues .setSlowSrc s ∨
      Expect.Sequences .deepSleep s) ∧
    (t.cpu.activeCfg ≠ s.cpu.activeCfg →
      Expect.Issues .setCpuCfg s ∨ Expect.Issues .switchToXtal s ∨ Expect.Sequences .pllWait s ∨
      Expect.Sequences .deepSleep s) ∧
    (t.slp.slowClkPeriod ≠ s.slp.slowClkPeriod → Expect.Issues .postWakeInit s ∨ Expect.Sequences .deepSleep s) ∧
    (s.ghost.refused = true → t.ghost.refused = true)

/-- R38, R94, R109, R102: what survives a light sleep. From LIGHT_SLEEP or WAKING every step keeps the operand registers, `RES[1..3]`,
the write bits of both, the marks, the clock selection, the CPU clock, the calibrator and the sleep registers other than `DOMAIN_OFF` and
`CPU_HALTED`; a lock may rise and does not fall, and the counter may tick; the host makes no access; the phase stays, or goes from
LIGHT_SLEEP to WAKING, or from WAKING to IDLE: no cancellation. -/
def Obligations.LightSleepPreservesTheRest : Prop :=
  ∀ s t : State, step s = .next t → s.st.phase = .lightSleep ∨ s.st.phase = .waking →
    t.io.arg = s.io.arg ∧ t.ghost.argW = s.ghost.argW ∧
    (∀ i : Fin 4, i ≠ 0 → t.io.res[i] = s.io.res[i] ∧ t.ghost.resW[i] = s.ghost.resW[i]) ∧
    t.ghost.unwrittenOperand = s.ghost.unwrittenOperand ∧ t.ghost.unwrittenResult = s.ghost.unwrittenResult ∧
    t.ghost.refused = s.ghost.refused ∧
    t.clk.slowClkSel = s.clk.slowClkSel ∧ t.clk.xtal = s.clk.xtal ∧
    (t.clk.rtcCounter = s.clk.rtcCounter ∨ t.clk.rtcCounter.toNat = s.clk.rtcCounter.toNat + 1) ∧ t.cal = s.cal ∧
    t.cpu.activeCfg = s.cpu.activeCfg ∧ t.cpu.muxSel = s.cpu.muxSel ∧ t.cpu.div = s.cpu.div ∧
    t.cpu.pendingCfg = s.cpu.pendingCfg ∧
    (∀ k, (t.cpu.pllOf k).en = (s.cpu.pllOf k).en ∧ (t.cpu.pllOf k).freq = (s.cpu.pllOf k).freq ∧
      ((s.cpu.pllOf k).locked = true → (t.cpu.pllOf k).locked = true)) ∧
    { t.slp with domainOff := s.slp.domainOff, cpuHalted := s.slp.cpuHalted } = s.slp ∧
    t.st.fault = s.st.fault ∧ t.st.cause = s.st.cause ∧ t.st.initialised = s.st.initialised ∧
    t.bench.program = s.bench.program ∧
    (t.st.phase = s.st.phase ∨ (s.st.phase = .lightSleep ∧ t.st.phase = .waking) ∨
      (s.st.phase = .waking ∧ t.st.phase = .idle))

/-- R100, R103, R104, R110: a light sleep with the timer enabled ends. After as many slow-clock ticks as the counter is short of the
target, none if it has passed, two sequencer steps complete the command: `RES[0]` = 0, which a host reads as Woke, AWAKE, IDLE, the
counter at or past the target, and the CPU clock as it was. -/
def Obligations.TimedLightSleepEnds : Prop :=
  ∀ s : State, s.st.phase = .lightSleep → s.slp.wakeOpt.getLsbD 3 = true →
    ∃ t, runTurns (List.replicate (s.slp.wakeupTime.toNat - s.clk.rtcCounter.toNat) .slowClock
        ++ [.sequencer, .sequencer]) s = .next t ∧
      t.io.res[0] = 0 ∧ lightSleepReading t.io.res[0] = .woke ∧ t.ghost.resW[0] = true ∧ t.st.phase = .idle ∧
      t.st.sleepState = .awake ∧ t.st.wakeTimeValid = false ∧ t.slp.domainOff = 0 ∧ t.slp.cpuHalted = false ∧ t.cpu = s.cpu ∧
      t.clk.rtcCounter.toNat = max s.clk.rtcCounter.toNat s.slp.wakeupTime.toNat

/-- R8, R70: in a fair run every settling delay ends. -/
def Obligations.FairSettlingEnds : Prop :=
  ∀ (σ : Nat → Agent) (x : Nat → State), FairRun σ x → (x 0).st.phase = .settling →
    ∃ n, (x n).st.phase ≠ .settling

/-- R8, R79 to R82, R84: in a fair run every calibration ends, whatever the target clock does. -/
def Obligations.FairCalibrationEnds : Prop :=
  ∀ (σ : Nat → Agent) (x : Nat → State), FairRun σ x → CalibratorInv (x 0) → (x 0).st.phase = .calibrating →
    ∃ n, (x n).st.phase ≠ .calibrating
end

