-- ==== Sys2Proof/Laws/Config.lean ====
section
/-! SUPPORT. The bounds 00_scope.md R4 sets on the parameters. -/

namespace Sys2Proof.Config

open Sys2Proof.Machine

theorem cpuDivMax_pos : 1 ≤ cpuDivMax.toNat := by
  unfold cpuDivMax
  split
  · decide
  · rename_i h
    have : cpuDivMaxRaw.toNat ≠ 0 := fun e => h (BitVec.eq_of_toNat_eq e)
    omega

theorem calMaxCycles_pos : 1 ≤ calMaxCycles.toNat := by
  unfold calMaxCycles
  split
  · decide
  · rename_i h
    have : calMaxCyclesRaw.toNat ≠ 0 := fun e => h (BitVec.eq_of_toNat_eq e)
    omega

/-- `CalTimeout(N) ≥ N`. -/
theorem le_calTimeout (n : BitVec 32) : n.toNat ≤ (calTimeout n).toNat := by
  have h64 : (zext64 n).toNat = n.toNat := by
    simp only [zext64, BitVec.toNat_setWidth]
    have := n.isLt
    omega
  unfold calTimeout
  split
  · rename_i h
    rw [BitVec.le_def, h64] at h
    exact h
  · exact h64.ge

theorem defaultPeriod_ne_zero : defaultPeriod ≠ 0 := by
  unfold defaultPeriod
  split
  · decide
  · assumption

end Sys2Proof.Config
end

