-- ==== Sys2Proof/Laws/State.lean ====
section
/-! SUPPORT. What each named update of the state does to each group of its fields, so that no later proof unfolds a record update. -/

namespace Sys2Proof.Machine

@[simp] theorem enterPhase_io (p : Phase) (s : State) : (enterPhase p s).io = s.io := rfl
@[simp] theorem enterPhase_clk (p : Phase) (s : State) : (enterPhase p s).clk = s.clk := rfl
@[simp] theorem enterPhase_cpu (p : Phase) (s : State) : (enterPhase p s).cpu = s.cpu := rfl
@[simp] theorem enterPhase_cal (p : Phase) (s : State) : (enterPhase p s).cal = s.cal := rfl
@[simp] theorem enterPhase_slp (p : Phase) (s : State) : (enterPhase p s).slp = s.slp := rfl
@[simp] theorem enterPhase_env (p : Phase) (s : State) : (enterPhase p s).env = s.env := rfl
@[simp] theorem enterPhase_ghost (p : Phase) (s : State) : (enterPhase p s).ghost = s.ghost := rfl
@[simp] theorem enterPhase_bench (p : Phase) (s : State) : (enterPhase p s).bench = s.bench := rfl
@[simp] theorem enterPhase_st (p : Phase) (s : State) :
    (enterPhase p s).st = { s.st with phase := p } := rfl

@[simp] theorem completeNone_io (s : State) : (completeNone s).io = s.io := rfl
@[simp] theorem completeNone_clk (s : State) : (completeNone s).clk = s.clk := rfl
@[simp] theorem completeNone_cpu (s : State) : (completeNone s).cpu = s.cpu := rfl
@[simp] theorem completeNone_cal (s : State) : (completeNone s).cal = s.cal := rfl
@[simp] theorem completeNone_slp (s : State) : (completeNone s).slp = s.slp := rfl
@[simp] theorem completeNone_env (s : State) : (completeNone s).env = s.env := rfl
@[simp] theorem completeNone_ghost (s : State) : (completeNone s).ghost = s.ghost := rfl
@[simp] theorem completeNone_bench (s : State) : (completeNone s).bench = s.bench := rfl
@[simp] theorem completeNone_st (s : State) :
    (completeNone s).st = { s.st with phase := .idle } := rfl

@[simp] theorem completeOne_clk (v : Word) (s : State) : (completeOne v s).clk = s.clk := rfl
@[simp] theorem completeOne_cpu (v : Word) (s : State) : (completeOne v s).cpu = s.cpu := rfl
@[simp] theorem completeOne_cal (v : Word) (s : State) : (completeOne v s).cal = s.cal := rfl
@[simp] theorem completeOne_slp (v : Word) (s : State) : (completeOne v s).slp = s.slp := rfl
@[simp] theorem completeOne_env (v : Word) (s : State) : (completeOne v s).env = s.env := rfl
@[simp] theorem completeOne_bench (v : Word) (s : State) : (completeOne v s).bench = s.bench := rfl
@[simp] theorem completeOne_st (v : Word) (s : State) :
    (completeOne v s).st = { s.st with phase := .idle } := rfl
@[simp] theorem completeOne_io (v : Word) (s : State) :
    (completeOne v s).io = { s.io with res := s.io.res.set 0 v } := rfl
@[simp] theorem completeOne_ghost (v : Word) (s : State) :
    (completeOne v s).ghost = { s.ghost with resW := s.ghost.resW.set 0 true } := rfl

@[simp] theorem raiseFault_io (c : FaultCode) (s : State) : (raiseFault c s).io = s.io := rfl
@[simp] theorem raiseFault_clk (c : FaultCode) (s : State) : (raiseFault c s).clk = s.clk := rfl
@[simp] theorem raiseFault_cpu (c : FaultCode) (s : State) : (raiseFault c s).cpu = s.cpu := rfl
@[simp] theorem raiseFault_cal (c : FaultCode) (s : State) : (raiseFault c s).cal = s.cal := rfl
@[simp] theorem raiseFault_slp (c : FaultCode) (s : State) : (raiseFault c s).slp = s.slp := rfl
@[simp] theorem raiseFault_env (c : FaultCode) (s : State) : (raiseFault c s).env = s.env := rfl
@[simp] theorem raiseFault_ghost (c : FaultCode) (s : State) : (raiseFault c s).ghost = s.ghost := rfl
@[simp] theorem raiseFault_bench (c : FaultCode) (s : State) : (raiseFault c s).bench = s.bench := rfl
@[simp] theorem raiseFault_st (c : FaultCode) (s : State) :
    (raiseFault c s).st = { s.st with phase := .faulted, fault := true, cause := if s.st.fault then s.st.cause else c.code } := rfl

@[simp] theorem unwrittenOperandFault_io (s : State) : (unwrittenOperandFault s).io = s.io := rfl
@[simp] theorem unwrittenOperandFault_clk (s : State) : (unwrittenOperandFault s).clk = s.clk := rfl
@[simp] theorem unwrittenOperandFault_cpu (s : State) : (unwrittenOperandFault s).cpu = s.cpu := rfl
@[simp] theorem unwrittenOperandFault_cal (s : State) : (unwrittenOperandFault s).cal = s.cal := rfl
@[simp] theorem unwrittenOperandFault_slp (s : State) : (unwrittenOperandFault s).slp = s.slp := rfl
@[simp] theorem unwrittenOperandFault_env (s : State) : (unwrittenOperandFault s).env = s.env := rfl
@[simp] theorem unwrittenOperandFault_bench (s : State) : (unwrittenOperandFault s).bench = s.bench := rfl
@[simp] theorem unwrittenOperandFault_st (s : State) :
    (unwrittenOperandFault s).st = { s.st with phase := .faulted } := rfl
@[simp] theorem unwrittenOperandFault_ghost (s : State) :
    (unwrittenOperandFault s).ghost = { s.ghost with unwrittenOperand := true } := rfl

@[simp] theorem unwrittenResultFault_io (s : State) : (unwrittenResultFault s).io = s.io := rfl
@[simp] theorem unwrittenResultFault_clk (s : State) : (unwrittenResultFault s).clk = s.clk := rfl
@[simp] theorem unwrittenResultFault_cpu (s : State) : (unwrittenResultFault s).cpu = s.cpu := rfl
@[simp] theorem unwrittenResultFault_cal (s : State) : (unwrittenResultFault s).cal = s.cal := rfl
@[simp] theorem unwrittenResultFault_slp (s : State) : (unwrittenResultFault s).slp = s.slp := rfl
@[simp] theorem unwrittenResultFault_env (s : State) : (unwrittenResultFault s).env = s.env := rfl
@[simp] theorem unwrittenResultFault_bench (s : State) : (unwrittenResultFault s).bench = s.bench := rfl
@[simp] theorem unwrittenResultFault_st (s : State) :
    (unwrittenResultFault s).st = { s.st with phase := .faulted } := rfl
@[simp] theorem unwrittenResultFault_ghost (s : State) :
    (unwrittenResultFault s).ghost = { s.ghost with unwrittenResult := true } := rfl

@[simp] theorem refuseAccess_io (s : State) : (refuseAccess s).io = s.io := rfl
@[simp] theorem refuseAccess_st (s : State) : (refuseAccess s).st = s.st := rfl
@[simp] theorem refuseAccess_clk (s : State) : (refuseAccess s).clk = s.clk := rfl
@[simp] theorem refuseAccess_cpu (s : State) : (refuseAccess s).cpu = s.cpu := rfl
@[simp] theorem refuseAccess_cal (s : State) : (refuseAccess s).cal = s.cal := rfl
@[simp] theorem refuseAccess_slp (s : State) : (refuseAccess s).slp = s.slp := rfl
@[simp] theorem refuseAccess_env (s : State) : (refuseAccess s).env = s.env := rfl
@[simp] theorem refuseAccess_bench (s : State) : (refuseAccess s).bench = s.bench := rfl
@[simp] theorem refuseAccess_ghost (s : State) :
    (refuseAccess s).ghost = { s.ghost with refused := true } := rfl

@[simp] theorem busReturn_io (v : Word) (s : State) : (busReturn v s).io = s.io := rfl
@[simp] theorem busReturn_st (v : Word) (s : State) : (busReturn v s).st = s.st := rfl
@[simp] theorem busReturn_clk (v : Word) (s : State) : (busReturn v s).clk = s.clk := rfl
@[simp] theorem busReturn_cpu (v : Word) (s : State) : (busReturn v s).cpu = s.cpu := rfl
@[simp] theorem busReturn_cal (v : Word) (s : State) : (busReturn v s).cal = s.cal := rfl
@[simp] theorem busReturn_slp (v : Word) (s : State) : (busReturn v s).slp = s.slp := rfl
@[simp] theorem busReturn_env (v : Word) (s : State) : (busReturn v s).env = s.env := rfl
@[simp] theorem busReturn_ghost (v : Word) (s : State) : (busReturn v s).ghost = s.ghost := rfl
@[simp] theorem busReturn_bench (v : Word) (s : State) :
    (busReturn v s).bench = { s.bench with busData := v } := rfl

@[simp] theorem popProgram_io (s : State) : (popProgram s).io = s.io := rfl
@[simp] theorem popProgram_st (s : State) : (popProgram s).st = s.st := rfl
@[simp] theorem popProgram_clk (s : State) : (popProgram s).clk = s.clk := rfl
@[simp] theorem popProgram_cpu (s : State) : (popProgram s).cpu = s.cpu := rfl
@[simp] theorem popProgram_cal (s : State) : (popProgram s).cal = s.cal := rfl
@[simp] theorem popProgram_slp (s : State) : (popProgram s).slp = s.slp := rfl
@[simp] theorem popProgram_env (s : State) : (popProgram s).env = s.env := rfl
@[simp] theorem popProgram_ghost (s : State) : (popProgram s).ghost = s.ghost := rfl
@[simp] theorem popProgram_bench (s : State) :
    (popProgram s).bench = { s.bench with program := s.bench.program.tail } := rfl

@[simp] theorem writeArg_st (i : Fin 4) (v : Word) (s : State) : (writeArg i v s).st = s.st := rfl
@[simp] theorem writeArg_clk (i : Fin 4) (v : Word) (s : State) : (writeArg i v s).clk = s.clk := rfl
@[simp] theorem writeArg_cpu (i : Fin 4) (v : Word) (s : State) : (writeArg i v s).cpu = s.cpu := rfl
@[simp] theorem writeArg_cal (i : Fin 4) (v : Word) (s : State) : (writeArg i v s).cal = s.cal := rfl
@[simp] theorem writeArg_slp (i : Fin 4) (v : Word) (s : State) : (writeArg i v s).slp = s.slp := rfl
@[simp] theorem writeArg_env (i : Fin 4) (v : Word) (s : State) : (writeArg i v s).env = s.env := rfl
@[simp] theorem writeArg_bench (i : Fin 4) (v : Word) (s : State) : (writeArg i v s).bench = s.bench := rfl
@[simp] theorem writeArg_io (i : Fin 4) (v : Word) (s : State) :
    (writeArg i v s).io = { s.io with arg := s.io.arg.set i v } := rfl
@[simp] theorem writeArg_ghost (i : Fin 4) (v : Word) (s : State) :
    (writeArg i v s).ghost = { s.ghost with argW := s.ghost.argW.set i true } := rfl

@[simp] theorem selectSlowClock_io (c : SlowSrc) (s : State) : (selectSlowClock c s).io = s.io := rfl
@[simp] theorem selectSlowClock_cpu (c : SlowSrc) (s : State) : (selectSlowClock c s).cpu = s.cpu := rfl
@[simp] theorem selectSlowClock_cal (c : SlowSrc) (s : State) : (selectSlowClock c s).cal = s.cal := rfl
@[simp] theorem selectSlowClock_slp (c : SlowSrc) (s : State) : (selectSlowClock c s).slp = s.slp := rfl
@[simp] theorem selectSlowClock_env (c : SlowSrc) (s : State) : (selectSlowClock c s).env = s.env := rfl
@[simp] theorem selectSlowClock_ghost (c : SlowSrc) (s : State) : (selectSlowClock c s).ghost = s.ghost := rfl
@[simp] theorem selectSlowClock_bench (c : SlowSrc) (s : State) : (selectSlowClock c s).bench = s.bench := rfl
@[simp] theorem selectSlowClock_st (c : SlowSrc) (s : State) :
    (selectSlowClock c s).st = { s.st with phase := .settling } := rfl
@[simp] theorem selectSlowClock_clk (c : SlowSrc) (s : State) :
    (selectSlowClock c s).clk = { s.clk with slowClkSel := c } := rfl

@[simp] theorem applyCfg_io (c : CpuCfg) (s : State) : (applyCfg c s).io = s.io := rfl
@[simp] theorem applyCfg_st (c : CpuCfg) (s : State) : (applyCfg c s).st = s.st := rfl
@[simp] theorem applyCfg_clk (c : CpuCfg) (s : State) : (applyCfg c s).clk = s.clk := rfl
@[simp] theorem applyCfg_cal (c : CpuCfg) (s : State) : (applyCfg c s).cal = s.cal := rfl
@[simp] theorem applyCfg_slp (c : CpuCfg) (s : State) : (applyCfg c s).slp = s.slp := rfl
@[simp] theorem applyCfg_env (c : CpuCfg) (s : State) : (applyCfg c s).env = s.env := rfl
@[simp] theorem applyCfg_ghost (c : CpuCfg) (s : State) : (applyCfg c s).ghost = s.ghost := rfl
@[simp] theorem applyCfg_bench (c : CpuCfg) (s : State) : (applyCfg c s).bench = s.bench := rfl
@[simp] theorem applyCfg_cpu (c : CpuCfg) (s : State) :
    (applyCfg c s).cpu = { s.cpu with muxSel := c.src, div := c.div, activeCfg := c } := rfl

@[simp] theorem startPll_io (k : Pll) (c : CpuCfg) (s : State) : (startPll k c s).io = s.io := rfl
@[simp] theorem startPll_st (k : Pll) (c : CpuCfg) (s : State) : (startPll k c s).st = s.st := rfl
@[simp] theorem startPll_clk (k : Pll) (c : CpuCfg) (s : State) : (startPll k c s).clk = s.clk := rfl
@[simp] theorem startPll_cal (k : Pll) (c : CpuCfg) (s : State) : (startPll k c s).cal = s.cal := rfl
@[simp] theorem startPll_slp (k : Pll) (c : CpuCfg) (s : State) : (startPll k c s).slp = s.slp := rfl
@[simp] theorem startPll_env (k : Pll) (c : CpuCfg) (s : State) : (startPll k c s).env = s.env := rfl
@[simp] theorem startPll_ghost (k : Pll) (c : CpuCfg) (s : State) : (startPll k c s).ghost = s.ghost := rfl
@[simp] theorem startPll_bench (k : Pll) (c : CpuCfg) (s : State) : (startPll k c s).bench = s.bench := rfl

@[simp] theorem loadTimings_io (s : State) : (loadTimings s).io = s.io := rfl
@[simp] theorem loadTimings_st (s : State) : (loadTimings s).st = s.st := rfl
@[simp] theorem loadTimings_clk (s : State) : (loadTimings s).clk = s.clk := rfl
@[simp] theorem loadTimings_cpu (s : State) : (loadTimings s).cpu = s.cpu := rfl
@[simp] theorem loadTimings_cal (s : State) : (loadTimings s).cal = s.cal := rfl
@[simp] theorem loadTimings_env (s : State) : (loadTimings s).env = s.env := rfl
@[simp] theorem loadTimings_ghost (s : State) : (loadTimings s).ghost = s.ghost := rfl
@[simp] theorem loadTimings_bench (s : State) : (loadTimings s).bench = s.bench := rfl

@[simp] theorem rejectSleep_io (m : BitVec 32) (s : State) :
    (rejectSleep m s).io = { s.io with res := s.io.res.set 0 (zext64 m) } := rfl
@[simp] theorem rejectSleep_clk (m : BitVec 32) (s : State) : (rejectSleep m s).clk = s.clk := rfl
@[simp] theorem rejectSleep_cpu (m : BitVec 32) (s : State) : (rejectSleep m s).cpu = s.cpu := rfl
@[simp] theorem rejectSleep_cal (m : BitVec 32) (s : State) : (rejectSleep m s).cal = s.cal := rfl
@[simp] theorem rejectSleep_slp (m : BitVec 32) (s : State) : (rejectSleep m s).slp = s.slp := rfl
@[simp] theorem rejectSleep_env (m : BitVec 32) (s : State) : (rejectSleep m s).env = s.env := rfl
@[simp] theorem rejectSleep_bench (m : BitVec 32) (s : State) : (rejectSleep m s).bench = s.bench := rfl
@[simp] theorem rejectSleep_ghost (m : BitVec 32) (s : State) :
    (rejectSleep m s).ghost = { s.ghost with resW := s.ghost.resW.set 0 true } := rfl
@[simp] theorem rejectSleep_st (m : BitVec 32) (s : State) :
    (rejectSleep m s).st = { s.st with sleepState := .awake, phase := .idle } := rfl

@[simp] theorem commitLightSleep_io (w r m : BitVec 32) (s : State) : (commitLightSleep w r m s).io = s.io := rfl
@[simp] theorem commitLightSleep_clk (w r m : BitVec 32) (s : State) : (commitLightSleep w r m s).clk = s.clk := rfl
@[simp] theorem commitLightSleep_cpu (w r m : BitVec 32) (s : State) : (commitLightSleep w r m s).cpu = s.cpu := rfl
@[simp] theorem commitLightSleep_cal (w r m : BitVec 32) (s : State) : (commitLightSleep w r m s).cal = s.cal := rfl
@[simp] theorem commitLightSleep_env (w r m : BitVec 32) (s : State) : (commitLightSleep w r m s).env = s.env := rfl
@[simp] theorem commitLightSleep_ghost (w r m : BitVec 32) (s : State) : (commitLightSleep w r m s).ghost = s.ghost := rfl
@[simp] theorem commitLightSleep_bench (w r m : BitVec 32) (s : State) : (commitLightSleep w r m s).bench = s.bench := rfl
@[simp] theorem commitLightSleep_st (w r m : BitVec 32) (s : State) :
    (commitLightSleep w r m s).st = { s.st with sleepState := .lightSleeping, phase := .lightSleep } := rfl

@[simp] theorem commitDeepSleep_io (w r : BitVec 32) (s : State) : (commitDeepSleep w r s).io = s.io := rfl
@[simp] theorem commitDeepSleep_clk (w r : BitVec 32) (s : State) : (commitDeepSleep w r s).clk = s.clk := rfl
@[simp] theorem commitDeepSleep_cpu (w r : BitVec 32) (s : State) : (commitDeepSleep w r s).cpu = s.cpu := rfl
@[simp] theorem commitDeepSleep_cal (w r : BitVec 32) (s : State) : (commitDeepSleep w r s).cal = s.cal := rfl
@[simp] theorem commitDeepSleep_env (w r : BitVec 32) (s : State) : (commitDeepSleep w r s).env = s.env := rfl
@[simp] theorem commitDeepSleep_ghost (w r : BitVec 32) (s : State) : (commitDeepSleep w r s).ghost = s.ghost := rfl
@[simp] theorem commitDeepSleep_bench (w r : BitVec 32) (s : State) : (commitDeepSleep w r s).bench = s.bench := rfl
@[simp] theorem commitDeepSleep_st (w r : BitVec 32) (s : State) :
    (commitDeepSleep w r s).st = { s.st with sleepState := .deepSleepPending, phase := .deepSleep } := rfl

@[simp] theorem slowClockStep_io (s : State) : (slowClockStep s).io = s.io := rfl
@[simp] theorem slowClockStep_st (s : State) : (slowClockStep s).st = s.st := rfl
@[simp] theorem slowClockStep_cpu (s : State) : (slowClockStep s).cpu = s.cpu := rfl
@[simp] theorem slowClockStep_cal (s : State) : (slowClockStep s).cal = s.cal := rfl
@[simp] theorem slowClockStep_slp (s : State) : (slowClockStep s).slp = s.slp := rfl
@[simp] theorem slowClockStep_env (s : State) : (slowClockStep s).env = s.env := rfl
@[simp] theorem slowClockStep_ghost (s : State) : (slowClockStep s).ghost = s.ghost := rfl
@[simp] theorem slowClockStep_bench (s : State) : (slowClockStep s).bench = s.bench := rfl
@[simp] theorem slowClockStep_clk (s : State) :
    (slowClockStep s).clk = { s.clk with rtcCounter := s.clk.rtcCounter + 1 } := rfl

@[simp] theorem refClockStep_io (s : State) : (refClockStep s).io = s.io := rfl
@[simp] theorem refClockStep_st (s : State) : (refClockStep s).st = s.st := rfl
@[simp] theorem refClockStep_clk (s : State) : (refClockStep s).clk = s.clk := rfl
@[simp] theorem refClockStep_cpu (s : State) : (refClockStep s).cpu = s.cpu := rfl
@[simp] theorem refClockStep_slp (s : State) : (refClockStep s).slp = s.slp := rfl
@[simp] theorem refClockStep_env (s : State) : (refClockStep s).env = s.env := rfl
@[simp] theorem refClockStep_ghost (s : State) : (refClockStep s).ghost = s.ghost := rfl
@[simp] theorem refClockStep_bench (s : State) : (refClockStep s).bench = s.bench := rfl
@[simp] theorem refClockStep_cal (s : State) :
    (refClockStep s).cal = { s.cal with acc := s.cal.acc + 1, refSeen := true } := rfl

@[simp] theorem targetClockStep_io (s : State) : (targetClockStep s).io = s.io := rfl
@[simp] theorem targetClockStep_st (s : State) : (targetClockStep s).st = s.st := rfl
@[simp] theorem targetClockStep_clk (s : State) : (targetClockStep s).clk = s.clk := rfl
@[simp] theorem targetClockStep_cpu (s : State) : (targetClockStep s).cpu = s.cpu := rfl
@[simp] theorem targetClockStep_slp (s : State) : (targetClockStep s).slp = s.slp := rfl
@[simp] theorem targetClockStep_env (s : State) : (targetClockStep s).env = s.env := rfl
@[simp] theorem targetClockStep_ghost (s : State) : (targetClockStep s).ghost = s.ghost := rfl
@[simp] theorem targetClockStep_bench (s : State) : (targetClockStep s).bench = s.bench := rfl
@[simp] theorem targetClockStep_cal (s : State) :
    (targetClockStep s).cal = { s.cal with tcnt := s.cal.tcnt + 1, refSeen := false } := rfl

@[simp] theorem pllLockStep_io (k : Pll) (s : State) : (pllLockStep k s).io = s.io := rfl
@[simp] theorem pllLockStep_st (k : Pll) (s : State) : (pllLockStep k s).st = s.st := rfl
@[simp] theorem pllLockStep_clk (k : Pll) (s : State) : (pllLockStep k s).clk = s.clk := rfl
@[simp] theorem pllLockStep_cal (k : Pll) (s : State) : (pllLockStep k s).cal = s.cal := rfl
@[simp] theorem pllLockStep_slp (k : Pll) (s : State) : (pllLockStep k s).slp = s.slp := rfl
@[simp] theorem pllLockStep_env (k : Pll) (s : State) : (pllLockStep k s).env = s.env := rfl
@[simp] theorem pllLockStep_ghost (k : Pll) (s : State) : (pllLockStep k s).ghost = s.ghost := rfl
@[simp] theorem pllLockStep_bench (k : Pll) (s : State) : (pllLockStep k s).bench = s.bench := rfl

@[simp] theorem lightWakeStep_io (s : State) : (lightWakeStep s).io = s.io := rfl
@[simp] theorem lightWakeStep_clk (s : State) : (lightWakeStep s).clk = s.clk := rfl
@[simp] theorem lightWakeStep_cpu (s : State) : (lightWakeStep s).cpu = s.cpu := rfl
@[simp] theorem lightWakeStep_cal (s : State) : (lightWakeStep s).cal = s.cal := rfl
@[simp] theorem lightWakeStep_slp (s : State) : (lightWakeStep s).slp = s.slp := rfl
@[simp] theorem lightWakeStep_env (s : State) : (lightWakeStep s).env = s.env := rfl
@[simp] theorem lightWakeStep_ghost (s : State) : (lightWakeStep s).ghost = s.ghost := rfl
@[simp] theorem lightWakeStep_bench (s : State) : (lightWakeStep s).bench = s.bench := rfl
@[simp] theorem lightWakeStep_st (s : State) :
    (lightWakeStep s).st = { s.st with sleepState := .waking, phase := .waking } := rfl

@[simp] theorem returnFromLightSleep_clk (s : State) : (returnFromLightSleep s).clk = s.clk := rfl
@[simp] theorem returnFromLightSleep_cpu (s : State) : (returnFromLightSleep s).cpu = s.cpu := rfl
@[simp] theorem returnFromLightSleep_cal (s : State) : (returnFromLightSleep s).cal = s.cal := rfl
@[simp] theorem returnFromLightSleep_env (s : State) : (returnFromLightSleep s).env = s.env := rfl
@[simp] theorem returnFromLightSleep_bench (s : State) : (returnFromLightSleep s).bench = s.bench := rfl
@[simp] theorem returnFromLightSleep_st (s : State) :
    (returnFromLightSleep s).st = { s.st with wakeTimeValid := false, sleepState := .awake, phase := .idle } := rfl
@[simp] theorem returnFromLightSleep_slp (s : State) :
    (returnFromLightSleep s).slp = { s.slp with domainOff := 0, cpuHalted := false } := rfl
@[simp] theorem returnFromLightSleep_io (s : State) :
    (returnFromLightSleep s).io = { s.io with res := s.io.res.set 0 0 } := rfl
@[simp] theorem returnFromLightSleep_ghost (s : State) :
    (returnFromLightSleep s).ghost = { s.ghost with resW := s.ghost.resW.set 0 true } := rfl

@[simp] theorem conditionsStep_io (w r : BitVec 32) (s : State) : (conditionsStep w r s).io = s.io := rfl
@[simp] theorem conditionsStep_st (w r : BitVec 32) (s : State) : (conditionsStep w r s).st = s.st := rfl
@[simp] theorem conditionsStep_clk (w r : BitVec 32) (s : State) : (conditionsStep w r s).clk = s.clk := rfl
@[simp] theorem conditionsStep_cpu (w r : BitVec 32) (s : State) : (conditionsStep w r s).cpu = s.cpu := rfl
@[simp] theorem conditionsStep_cal (w r : BitVec 32) (s : State) : (conditionsStep w r s).cal = s.cal := rfl
@[simp] theorem conditionsStep_slp (w r : BitVec 32) (s : State) : (conditionsStep w r s).slp = s.slp := rfl
@[simp] theorem conditionsStep_ghost (w r : BitVec 32) (s : State) : (conditionsStep w r s).ghost = s.ghost := rfl
@[simp] theorem conditionsStep_bench (w r : BitVec 32) (s : State) : (conditionsStep w r s).bench = s.bench := rfl
@[simp] theorem conditionsStep_env (w r : BitVec 32) (s : State) :
    (conditionsStep w r s).env = { wakeCond := w, rejectCond := r } := rfl

@[simp] theorem wakeReset_env (s : State) : (wakeReset s).env = s.env := rfl
@[simp] theorem wakeReset_st (s : State) :
    (wakeReset s).st = State.reset.st := rfl
@[simp] theorem wakeReset_clk (s : State) :
    (wakeReset s).clk = State.reset.clk := rfl
@[simp] theorem wakeReset_cal (s : State) :
    (wakeReset s).cal = State.reset.cal := rfl
@[simp] theorem wakeReset_ghost (s : State) :
    (wakeReset s).ghost = { State.reset.ghost with refused := s.ghost.refused } := rfl
@[simp] theorem wakeReset_bench (s : State) :
    (wakeReset s).bench = { s.bench with program := s.bench.bootProgram, wakes := s.bench.wakes + 1, runOver := true } := rfl

@[simp] theorem takeAgent_io (s : State) : (takeAgent s).io = s.io := by unfold takeAgent; split <;> rfl
@[simp] theorem takeAgent_st (s : State) : (takeAgent s).st = s.st := by unfold takeAgent; split <;> rfl
@[simp] theorem takeAgent_clk (s : State) : (takeAgent s).clk = s.clk := by unfold takeAgent; split <;> rfl
@[simp] theorem takeAgent_cpu (s : State) : (takeAgent s).cpu = s.cpu := by unfold takeAgent; split <;> rfl
@[simp] theorem takeAgent_cal (s : State) : (takeAgent s).cal = s.cal := by unfold takeAgent; split <;> rfl
@[simp] theorem takeAgent_slp (s : State) : (takeAgent s).slp = s.slp := by unfold takeAgent; split <;> rfl
@[simp] theorem takeAgent_env (s : State) : (takeAgent s).env = s.env := by unfold takeAgent; split <;> rfl
@[simp] theorem takeAgent_ghost (s : State) : (takeAgent s).ghost = s.ghost := by unfold takeAgent; split <;> rfl
@[simp] theorem takeAgent_program (s : State) : (takeAgent s).bench.program = s.bench.program := by unfold takeAgent; split <;> rfl
@[simp] theorem takeAgent_bootProgram (s : State) : (takeAgent s).bench.bootProgram = s.bench.bootProgram := by unfold takeAgent; split <;> rfl
@[simp] theorem takeAgent_busData (s : State) : (takeAgent s).bench.busData = s.bench.busData := by unfold takeAgent; split <;> rfl
@[simp] theorem takeAgent_runOver (s : State) : (takeAgent s).bench.runOver = s.bench.runOver := by unfold takeAgent; split <;> rfl
@[simp] theorem takeAgent_wakes (s : State) : (takeAgent s).bench.wakes = s.bench.wakes := by unfold takeAgent; split <;> rfl
@[simp] theorem writeRes_st (i : Fin 4) (v : Option Word) (s : State) : (writeRes i v s).st = s.st := by cases v <;> rfl
@[simp] theorem writeRes_clk (i : Fin 4) (v : Option Word) (s : State) : (writeRes i v s).clk = s.clk := by cases v <;> rfl
@[simp] theorem writeRes_cpu (i : Fin 4) (v : Option Word) (s : State) : (writeRes i v s).cpu = s.cpu := by cases v <;> rfl
@[simp] theorem writeRes_cal (i : Fin 4) (v : Option Word) (s : State) : (writeRes i v s).cal = s.cal := by cases v <;> rfl
@[simp] theorem writeRes_slp (i : Fin 4) (v : Option Word) (s : State) : (writeRes i v s).slp = s.slp := by cases v <;> rfl
@[simp] theorem writeRes_env (i : Fin 4) (v : Option Word) (s : State) : (writeRes i v s).env = s.env := by cases v <;> rfl
@[simp] theorem writeRes_bench (i : Fin 4) (v : Option Word) (s : State) : (writeRes i v s).bench = s.bench := by cases v <;> rfl
@[simp] theorem complete_clk (a b c d : Option Word) (s : State) : (complete a b c d s).clk = s.clk := by simp [complete]
@[simp] theorem complete_cpu (a b c d : Option Word) (s : State) : (complete a b c d s).cpu = s.cpu := by simp [complete]
@[simp] theorem complete_cal (a b c d : Option Word) (s : State) : (complete a b c d s).cal = s.cal := by simp [complete]
@[simp] theorem complete_slp (a b c d : Option Word) (s : State) : (complete a b c d s).slp = s.slp := by simp [complete]
@[simp] theorem complete_env (a b c d : Option Word) (s : State) : (complete a b c d s).env = s.env := by simp [complete]
@[simp] theorem complete_bench (a b c d : Option Word) (s : State) : (complete a b c d s).bench = s.bench := by simp [complete]
@[simp] theorem complete_st (a b c d : Option Word) (s : State) :
    (complete a b c d s).st = { s.st with phase := .idle } := by simp [complete]

/-- A completion writes no `ARG` register. -/
@[simp] theorem complete_arg (a b c d : Option Word) (s : State) : (complete a b c d s).io.arg = s.io.arg := by
  cases a <;> cases b <;> cases c <;> cases d <;> rfl

@[simp] theorem complete_argW (a b c d : Option Word) (s : State) : (complete a b c d s).ghost.argW = s.ghost.argW := by
  cases a <;> cases b <;> cases c <;> cases d <;> rfl

@[simp] theorem complete_refused (a b c d : Option Word) (s : State) : (complete a b c d s).ghost.refused = s.ghost.refused := by
  cases a <;> cases b <;> cases c <;> cases d <;> rfl

@[simp] theorem complete_unwrittenOperand (a b c d : Option Word) (s : State) :
    (complete a b c d s).ghost.unwrittenOperand = s.ghost.unwrittenOperand := by
  cases a <;> cases b <;> cases c <;> cases d <;> rfl

@[simp] theorem complete_unwrittenResult (a b c d : Option Word) (s : State) :
    (complete a b c d s).ghost.unwrittenResult = s.ghost.unwrittenResult := by
  cases a <;> cases b <;> cases c <;> cases d <;> rfl

end Sys2Proof.Machine
end

