-- ==== Sys2Proof/Laws/Issue.lean ====
section
/-! SUPPORT. What the issue step of a command can do, said once: the shared checks (30_encoding.md R49), and every state `exec` can
answer. -/

namespace Sys2Proof.Machine

/-- With every operand written and legal, a command does what its rule says (30_encoding.md R49). -/
theorem issue_ok {i : Instr} {body : State → State} {s : State}
    (hw : operandsWritten i s = true) (hl : operandsLegal i s = true) : issue i body s = .next (body s) := by
  simp [issue, hw, hl]

/-- An unwritten operand register stops the command first (60_exceptions.md R114.4). -/
theorem issue_unwritten {i : Instr} {body : State → State} {s : State}
    (hw : operandsWritten i s = false) : issue i body s = .next (unwrittenOperandFault s) := by
  simp [issue, hw]

/-- An illegal operand stops it next (60_exceptions.md R114.5). -/
theorem issue_illegal {i : Instr} {body : State → State} {s : State}
    (hw : operandsWritten i s = true) (hl : operandsLegal i s = false) :
    issue i body s = .next (raiseFault .illegalOperand s) := by
  simp [issue, hw, hl]

/-- Everything the issue of a command can answer. -/
theorem issue_cases {i : Instr} {body : State → State} {s t : State} (h : issue i body s = .next t) :
    (operandsWritten i s = false ∧ t = unwrittenOperandFault s) ∨
    (operandsWritten i s = true ∧ operandsLegal i s = false ∧ t = raiseFault .illegalOperand s) ∨
    (operandsWritten i s = true ∧ operandsLegal i s = true ∧ t = body s) := by
  cases hw : operandsWritten i s <;> cases hl : operandsLegal i s <;>
    simp [issue, hw, hl] at h <;> simp [h]

/-- The rule of each command, without the operand checks. -/
def bodyOf : Instr → State → State
  | .init => initBody
  | .applyDefaultClk => applyDefaultClkBody
  | .getXtalFreq => getXtalFreqBody
  | .getSlowSrc => getSlowSrcBody
  | .setSlowSrc => setSlowSrcBody
  | .getRtcCounter => getRtcCounterBody
  | .usToCycles => usToCyclesBody
  | .cyclesToUs => cyclesToUsBody
  | .calibrate => calibrateBody
  | .setCpuCfg => setCpuCfgBody
  | .getCpuCfg => getCpuCfgBody
  | .switchToXtal => switchToXtalBody
  | .prepareSleep => prepareSleepBody
  | .setWakeupTime => setWakeupTimeBody
  | .enterLightSleep => enterLightSleepBody
  | .enterDeepSleep => enterDeepSleepBody
  | .postWakeInit => postWakeInitBody

/-- `exec` is the shared issue step around the command's rule (30_encoding.md R49). -/
theorem exec_eq_issue (i : Instr) (s : State) : exec i s = issue i (bodyOf i) s := by
  cases i <;> rfl

/-- With every operand written and legal, a command does what its rule says. -/
theorem exec_ok {i : Instr} {s : State} (hw : operandsWritten i s = true) (hl : operandsLegal i s = true) :
    exec i s = .next (bodyOf i s) := by
  rw [exec_eq_issue, issue_ok hw hl]

/-- Every state the issue step of a command can lead to, with the condition each needs. -/
inductive Effect (s : State) : State → Prop
  | unwritten : Effect s (unwrittenOperandFault s)
  | fault (c : FaultCode) : Effect s (raiseFault c s)
  | results (a b c d : Option Word) : Effect s (complete a b c d s)
  | select (src : SlowSrc) : Effect s (selectSlowClock src s)
  | init (h : s.st.initialised = false) :
      Effect s (selectSlowClock .rc { s with st := { s.st with initialised := true } })
  | calibrate (tgt : CalTarget) (n : BitVec 32) (h1 : 1 ≤ n.toNat) (h2 : n.toNat ≤ Config.calMaxCycles.toNat) :
      Effect s (enterPhase .calibrating { s with cal := { target := tgt, n := n, tcnt := 0, acc := 0, refSeen := false } })
  | apply (cfg : CpuCfg) (hs : s.st.sleepState ≠ .preparing) (hv : cfg.valid = true) (hp : cfg.src.pll? = none) :
      Effect s (completeNone (applyCfg cfg s))
  | warmUp (k : Pll) (cfg : CpuCfg) (hs : s.st.sleepState ≠ .preparing) (hv : cfg.valid = true)
      (hp : cfg.src.pll? = some k) : Effect s (enterPhase .pllWait (startPll k cfg s))
  | crystal : Effect s (completeNone (applyCfg (crystalCfg s.clk.xtal) s))
  | prepare (f : PowerFlags) :
      Effect s (completeNone { loadTimings { s with slp := { s.slp with pdCfg := f, pdRes := resolve f } } with
        st := { s.st with sleepState := .preparing } })
  | wakeupTime (v : Word) :
      Effect s (completeNone { s with slp := { s.slp with wakeupTime := v }, st := { s.st with wakeTimeValid := true } })
  | reject (v : Word) (hs : s.st.sleepState = .preparing) :
      Effect s (completeOne v { s with st := { s.st with sleepState := .awake } })
  | lightSleep (w r m : BitVec 32) (hs : s.st.sleepState = .preparing)
      (ht : w.getLsbD 3 = true → s.st.wakeTimeValid = true) (hr : s.rejectMask r = 0) :
      Effect s (commitLightSleep w r m s)
  | deepSleep (w r : BitVec 32) (hs : s.st.sleepState = .preparing)
      (ht : w.getLsbD 3 = true → s.st.wakeTimeValid = true) (hr : s.rejectMask r = 0) :
      Effect s (commitDeepSleep w r s)
  | postWake (p : BitVec 32) (hp : p ≠ 0) :
      Effect s (completeNone (loadTimings { s with slp := { s.slp with slowClkPeriod := p } }))

/-- A sleep entry gets past its checks only in PREPARING, with a wakeup time where its mask has the timer, and answers with the
matching reject conditions. -/
theorem sleepCheck_ok {w r m : BitVec 32} {s : State} (h : sleepCheck w r s = .ok m) :
    s.st.sleepState = .preparing ∧ (w.getLsbD 3 = true → s.st.wakeTimeValid = true) ∧ m = s.rejectMask r := by
  unfold sleepCheck at h
  split at h
  · cases h
  · rename_i hs
    split at h
    · cases h
    · rename_i ht
      cases h
      exact ⟨by simpa using hs, by simpa using ht, rfl⟩

/-- The two faults of a sleep entry, and when each is raised: SEQUENCE_ERROR before WAKEUP_TIME_UNSET (44_sleep_orchestrator.md R102,
R105). -/
theorem sleepCheck_error {w r : BitVec 32} {c : FaultCode} {s : State} (h : sleepCheck w r s = .error c) :
    (c = .sequenceError ∧ s.st.sleepState ≠ .preparing) ∨
    (c = .wakeupTimeUnset ∧ s.st.sleepState = .preparing ∧ w.getLsbD 3 = true ∧ s.st.wakeTimeValid = false) := by
  unfold sleepCheck at h
  split at h
  · rename_i hs
    cases h
    exact .inl ⟨rfl, hs⟩
  · rename_i hs
    split at h
    · rename_i ht
      cases h
      exact .inr ⟨rfl, by simpa using hs, by simpa using ht⟩
    · cases h

/-- A sleep entry's result is a fault exactly where its checks are. -/
theorem lightSleepResult_error {w r : BitVec 32} {c : FaultCode} {s : State} :
    lightSleepResult w r s = .error c ↔ sleepCheck w r s = .error c := by
  unfold lightSleepResult
  split <;> simp_all

theorem deepSleepResult_error {w r : BitVec 32} {c : FaultCode} {s : State} :
    deepSleepResult w r s = .error c ↔ sleepCheck w r s = .error c := by
  unfold deepSleepResult
  split <;> simp_all

/-- An entry that passes its checks with no matching condition wakes or does not return, and one with a matching condition is rejected
with exactly the matching ones (44_sleep_orchestrator.md R110). -/
theorem lightSleepResult_ok {w r : BitVec 32} {o : LightSleepOutcome} {s : State} (h : lightSleepResult w r s = .ok o) :
    sleepCheck w r s = .ok (s.rejectMask r) ∧ o = if s.rejectMask r = 0 then .woke else .rejected (s.rejectMask r) := by
  unfold lightSleepResult at h
  split at h
  · cases h
  · rename_i hc
    obtain ⟨_, _, rfl⟩ := sleepCheck_ok hc
    exact ⟨hc, (Except.ok.inj h).symm⟩

theorem deepSleepResult_ok {w r : BitVec 32} {o : DeepSleepOutcome} {s : State} (h : deepSleepResult w r s = .ok o) :
    sleepCheck w r s = .ok (s.rejectMask r) ∧ o = if s.rejectMask r = 0 then .noReturn else .rejected (s.rejectMask r) := by
  unfold deepSleepResult at h
  split at h
  · cases h
  · rename_i hc
    obtain ⟨_, _, rfl⟩ := sleepCheck_ok hc
    exact ⟨hc, (Except.ok.inj h).symm⟩

/-- A body whose result is an `Effect` makes the issue step one. -/
theorem issue_effect {i : Instr} {body : State → State} {s t : State} (h : issue i body s = .next t)
    (hb : operandsLegal i s = true → Effect s (body s)) : Effect s t := by
  rcases issue_cases h with ⟨_, rfl⟩ | ⟨_, _, rfl⟩ | ⟨_, hl, rfl⟩
  · exact .unwritten
  · exact .fault _
  · exact hb hl

/-- Inversion of `exec`: whatever command is issued, the state it leads to is one of `Effect`. -/
theorem exec_effect {i : Instr} {s t : State} (h : exec i s = .next t) : Effect s t := by
  rw [exec_eq_issue] at h
  cases i <;> refine issue_effect h fun hl => ?_
  case init =>
    simp only [bodyOf, initBody]
    split
    · exact .fault _
    · rename_i hi
      exact .init (by simpa using hi)
  case applyDefaultClk => exact .select _
  case getXtalFreq => exact .results ..
  case getSlowSrc => exact .results ..
  case setSlowSrc =>
    simp only [bodyOf, setSlowSrcBody]
    split
    · exact .select _
    · exact .fault _
  case getRtcCounter => exact .results ..
  case usToCycles =>
    simp only [bodyOf, usToCyclesBody]
    split
    · exact .fault _
    · exact .results ..
  case cyclesToUs =>
    simp only [bodyOf, cyclesToUsBody]
    split
    · exact .fault _
    · exact .results ..
  case calibrate =>
    simp only [operandsLegal, operandFormat, List.all_cons, List.all_nil, OperandField.accepts, LegalValues.admits,
      Bool.and_eq_true, decide_eq_true_eq] at hl
    obtain ⟨_, ⟨hlt, h1, h2⟩, _⟩ := hl
    have hn : (argField s 1 32).toNat = s.io.arg[(1 : Fin 4)].toNat := by
      simp only [argField, BitVec.toNat_setWidth]
      exact Nat.mod_eq_of_lt hlt
    exact .calibrate _ _ (hn ▸ h1) (hn ▸ h2)
  case setCpuCfg =>
    simp only [bodyOf, setCpuCfgBody]
    split
    · exact .fault _
    · rename_i hs
      split
      · exact .fault _
      · rename_i hv
        simp only [Bool.not_eq_true', Bool.not_eq_false] at hv
        split
        · rename_i k hk
          exact .warmUp k _ hs hv hk
        · rename_i hk
          exact .apply _ hs hv hk
  case getCpuCfg => exact .results ..
  case switchToXtal => exact .crystal
  case prepareSleep => exact .prepare _
  case setWakeupTime => exact .wakeupTime _
  case enterLightSleep =>
    simp only [bodyOf, enterLightSleepBody]
    split
    · exact .fault _
    · rename_i ho
      exact .reject _ (sleepCheck_ok (lightSleepResult_ok ho).1).1
    · rename_i ho
      obtain ⟨hc, hm⟩ := lightSleepResult_ok ho
      obtain ⟨hs, ht, _⟩ := sleepCheck_ok hc
      exact .lightSleep _ _ _ hs ht (by by_contra h0; rw [if_neg h0] at hm; cases hm)
  case enterDeepSleep =>
    simp only [bodyOf, enterDeepSleepBody]
    split
    · exact .fault _
    · rename_i ho
      exact .reject _ (sleepCheck_ok (deepSleepResult_ok ho).1).1
    · rename_i ho
      obtain ⟨hc, hm⟩ := deepSleepResult_ok ho
      obtain ⟨hs, ht, _⟩ := sleepCheck_ok hc
      exact .deepSleep _ _ hs ht (by by_contra h0; rw [if_neg h0] at hm; cases hm)
  case postWakeInit =>
    simp only [bodyOf, postWakeInitBody]
    split
    · exact .fault _
    · rename_i hp
      exact .postWake _ hp

/-- Every command answers a next state, whatever the state. -/
theorem exec_next (i : Instr) (s : State) : ∃ t, exec i s = .next t := by
  have hi : ∀ (i : Instr) (body : State → State), ∃ t, issue i body s = .next t := by
    intro i body
    unfold issue
    split
    · exact ⟨_, rfl⟩
    · split <;> exact ⟨_, rfl⟩
  rw [exec_eq_issue]
  exact hi _ _

end Sys2Proof.Machine
end

