-- ==== Sys2Proof/Laws/PerInstr.lean ====
section
/-! SUPPORT. Statements about every command, one lemma per constructor: the words of distinct commands and their illegal neighbours
are told apart by the decoder (30_encoding.md R48, R50). -/

namespace Sys2Proof.Laws.CommandWord

/-- The command's word has no reserved bit set, its opcode is in no illegal range, and the decoder reads the command back. -/
def Statement (i : Instr) : Prop :=
  i.wellFormed = true ∧ CmdWord.wellFormed (encode i) = true ∧ decodeWord (encode i) = .ok i

theorem init : Statement .init := ⟨rfl, by decide, rfl⟩
theorem applyDefaultClk : Statement .applyDefaultClk := ⟨rfl, by decide, rfl⟩
theorem getXtalFreq : Statement .getXtalFreq := ⟨rfl, by decide, rfl⟩
theorem getSlowSrc : Statement .getSlowSrc := ⟨rfl, by decide, rfl⟩
theorem setSlowSrc : Statement .setSlowSrc := ⟨rfl, by decide, rfl⟩
theorem getRtcCounter : Statement .getRtcCounter := ⟨rfl, by decide, rfl⟩
theorem usToCycles : Statement .usToCycles := ⟨rfl, by decide, rfl⟩
theorem cyclesToUs : Statement .cyclesToUs := ⟨rfl, by decide, rfl⟩
theorem calibrate : Statement .calibrate := ⟨rfl, by decide, rfl⟩
theorem setCpuCfg : Statement .setCpuCfg := ⟨rfl, by decide, rfl⟩
theorem getCpuCfg : Statement .getCpuCfg := ⟨rfl, by decide, rfl⟩
theorem switchToXtal : Statement .switchToXtal := ⟨rfl, by decide, rfl⟩
theorem prepareSleep : Statement .prepareSleep := ⟨rfl, by decide, rfl⟩
theorem setWakeupTime : Statement .setWakeupTime := ⟨rfl, by decide, rfl⟩
theorem enterLightSleep : Statement .enterLightSleep := ⟨rfl, by decide, rfl⟩
theorem enterDeepSleep : Statement .enterDeepSleep := ⟨rfl, by decide, rfl⟩
theorem postWakeInit : Statement .postWakeInit := ⟨rfl, by decide, rfl⟩

end Sys2Proof.Laws.CommandWord
end

