-- ==== Sys2Proof/Laws/Turn.lean ====
section
/-! SUPPORT. What one turn of an agent can do, said once, and from it what one step can do. -/

namespace Sys2Proof.Machine

/-- Every state one turn of agent `a` can lead to, with the condition each needs. -/
inductive TurnEffect (a : Agent) (s : State) : State → Prop
  | pass : TurnEffect a s s
  | refuse (ha : a = .host) (hh : s.hostHalted = false) : TurnEffect a s (refuseAccess s)
  | poll (v : Word) (ha : a = .host) (hh : s.hostHalted = false) (hb : s.busy = true) : TurnEffect a s (busReturn v s)
  | read (v : Word) (ha : a = .host) (hh : s.hostHalted = false) : TurnEffect a s (busReturn v (popProgram s))
  | unwrittenResult (ha : a = .host) (hh : s.hostHalted = false) : TurnEffect a s (unwrittenResultFault (popProgram s))
  | writeArg (i : Fin 4) (v : Word) (ha : a = .host) (hh : s.hostHalted = false) :
      TurnEffect a s (writeArg i v (popProgram s))
  | writeNothing (ha : a = .host) (hh : s.hostHalted = false) : TurnEffect a s (popProgram s)
  | cmdFault (c : FaultCode) (ha : a = .host) (hh : s.hostHalted = false) (hf : s.st.phase ≠ .faulted) :
      TurnEffect a s (raiseFault c (popProgram s))
  | command (ha : a = .host) (hi : s.st.phase = .idle) {v : Word} {i : Instr} {t : State}
      (hp : ∃ rest, s.bench.program = .write 0x00 8 v :: rest) (hd : decodeValue v = .ok i)
      (hx : exec i (popProgram s) = .next t) : TurnEffect a s t
  | slowClock (ha : a = .slowClock) (h : slowClockEnabled s = true) : TurnEffect a s (slowClockStep s)
  | refClock (ha : a = .refClock) (h : refClockEnabled s = true) : TurnEffect a s (refClockStep s)
  | targetClock (ha : a = .targetClock) (h : targetClockEnabled s = true) : TurnEffect a s (targetClockStep s)
  | settle (ha : a = .settle) (h : settleEnabled s = true) : TurnEffect a s (settleStep s)
  | pllLock (k : Pll) (ha : a = .pllLock k) (h : pllLockEnabled k s = true) : TurnEffect a s (pllLockStep k s)
  | conditions (w r : BitVec 32) (ha : a = .conditions w r) : TurnEffect a s (conditionsStep w r s)
  | calDone (ha : a = .sequencer) (h : calDoneEnabled s = true) : TurnEffect a s (calDoneStep s)
  | calTimeout (ha : a = .sequencer) (h : calTimeoutEnabled s = true) : TurnEffect a s (calTimeoutStep s)
  | pllReady (ha : a = .sequencer) (h : pllReadyEnabled s = true) : TurnEffect a s (pllReadyStep s)
  | lightWake (ha : a = .sequencer) (h : lightWakeEnabled s = true) : TurnEffect a s (lightWakeStep s)
  | restore (ha : a = .sequencer) (h : restoreEnabled s = true) : TurnEffect a s (restoreStep s)
  | deepWake (ha : a = .sequencer) (h : deepWakeEnabled s = true) : TurnEffect a s (deepWakeStep s)

/-- A state that is neither busy nor faulted is idle (10_state.md R15). -/
theorem phase_idle_of_not_busy {s : State} (hb : s.busy = false) (hf : s.st.phase ≠ .faulted) : s.st.phase = .idle := by
  simpa [State.busy, hf] using hb

/-- Only an 8-byte access at offset 0 reaches `CMD` (20_memory.md R39, R41). -/
theorem admitted_cmd {offset : Int} {bytes : Nat} (h : admitted offset bytes = some .cmd) : offset = 0x00 ∧ bytes = 8 := by
  unfold admitted windowReg at h
  split at h
  · refine ⟨?_, ‹_›⟩
    by_contra h0
    rw [if_neg h0] at h
    repeat' split at h
    all_goals cases h
  · cases h

/-- A `CMD` write by the host, inverted (20_memory.md R43). -/
theorem writeCmd_effect {v : Word} {s t : State} (hh : s.hostHalted = false)
    (hp : ∃ rest, s.bench.program = .write 0x00 8 v :: rest)
    (h : writeCmd v (popProgram s) = .next t) : TurnEffect .host s t := by
  unfold writeCmd at h
  split at h
  · cases h
    exact .writeNothing rfl hh
  · rename_i hf
    split at h
    · cases h
      exact .cmdFault _ rfl hh hf
    · rename_i hb
      split at h
      · cases h
        exact .cmdFault _ rfl hh hf
      · rename_i hd
        exact .command rfl (phase_idle_of_not_busy (s := s) (by simpa [State.busy] using hb) hf) hp hd h

/-- An access of the host, inverted (20_memory.md R44). -/
theorem hostAccess_effect {op : HostOp} {s t : State} (hh : s.hostHalted = false)
    (hp : ∃ rest, s.bench.program = op :: rest)
    (h : hostAccess op s = .next t) : TurnEffect .host s t := by
  cases op with
  | read offset bytes =>
    simp only [hostAccess] at h
    split at h
    · rename_i r _
      cases h
      cases r with
      | cmd => exact .read _ rfl hh
      | status => exact .read _ rfl hh
      | arg i => exact .read _ rfl hh
      | res i =>
        simp only [readReg]
        split
        · exact .read _ rfl hh
        · exact .unwrittenResult rfl hh
    · cases h
      exact .refuse rfl hh
  | write offset bytes v =>
    simp only [hostAccess] at h
    split at h
    · rename_i r hr
      cases r with
      | cmd =>
        obtain ⟨rfl, rfl⟩ := admitted_cmd hr
        exact writeCmd_effect hh hp h
      | status => cases h; exact .writeNothing rfl hh
      | arg i => cases h; exact .writeArg i v rfl hh
      | res i => cases h; exact .writeNothing rfl hh
    · cases h
      exact .refuse rfl hh
  | pollStatus =>
    simp only [hostAccess] at h
    cases h
    split
    · rename_i hb
      exact .poll _ rfl hh hb
    · exact .read _ rfl hh

/-- The sequencer's step, inverted. -/
theorem sequencerStep_effect (s : State) : TurnEffect .sequencer s ((sequencerStep? s).getD s) := by
  unfold sequencerStep?
  split
  · exact .calDone rfl ‹_›
  · split
    · exact .calTimeout rfl ‹_›
    · split
      · exact .pllReady rfl ‹_›
      · split
        · exact .lightWake rfl ‹_›
        · split
          · exact .restore rfl ‹_›
          · split
            · exact .deepWake rfl ‹_›
            · exact .pass

/-- A guarded step, inverted. -/
theorem stepIf_cases {on : Bool} {f : State → State} {s t : State} (h : stepIf on f s = .next t) :
    (on = true ∧ t = f s) ∨ (on = false ∧ t = s) := by
  cases on <;> simp_all [stepIf]

/-- Inversion of one turn, whichever agent takes it. -/
theorem turn_effect {a : Agent} {s t : State} (h : turn a s = .next t) : TurnEffect a s t := by
  cases a with
  | host =>
    simp only [turn, hostTurn] at h
    split at h
    · cases h
      exact .pass
    · rename_i hh
      split at h
      · cases h
        exact .pass
      · rename_i hp
        exact hostAccess_effect (by simpa using hh) ⟨_, hp⟩ h
  | sequencer =>
    cases h
    exact sequencerStep_effect s
  | slowClock =>
    rcases stepIf_cases h with ⟨ho, rfl⟩ | ⟨_, rfl⟩
    · exact .slowClock rfl ho
    · exact .pass
  | refClock =>
    rcases stepIf_cases h with ⟨ho, rfl⟩ | ⟨_, rfl⟩
    · exact .refClock rfl ho
    · exact .pass
  | targetClock =>
    rcases stepIf_cases h with ⟨ho, rfl⟩ | ⟨_, rfl⟩
    · exact .targetClock rfl ho
    · exact .pass
  | settle =>
    rcases stepIf_cases h with ⟨ho, rfl⟩ | ⟨_, rfl⟩
    · exact .settle rfl ho
    · exact .pass
  | pllLock k =>
    rcases stepIf_cases h with ⟨ho, rfl⟩ | ⟨_, rfl⟩
    · exact .pllLock k rfl ho
    · exact .pass
  | conditions w r =>
    cases h
    exact .conditions w r rfl

/-- Inversion of one step: one turn after the schedule has been read. -/
theorem step_effect {s t : State} (h : step s = .next t) : TurnEffect (nextAgent s) (takeAgent s) t :=
  turn_effect h

/-- Every turn answers a next state. -/
theorem turn_next (a : Agent) (s : State) : ∃ t, turn a s = .next t := by
  have hw : ∀ v s, ∃ t, writeCmd v s = .next t := by
    intro v s
    unfold writeCmd
    split
    · exact ⟨_, rfl⟩
    · split
      · exact ⟨_, rfl⟩
      · split
        · exact ⟨_, rfl⟩
        · exact exec_next _ _
  cases a with
  | host =>
    simp only [turn, hostTurn]
    split
    · exact ⟨_, rfl⟩
    · split
      · exact ⟨_, rfl⟩
      · rename_i op _ _
        cases op with
        | read offset bytes =>
          simp only [hostAccess]
          split <;> exact ⟨_, rfl⟩
        | write offset bytes v =>
          simp only [hostAccess]
          split
          · rename_i r _
            cases r with
            | cmd => exact hw _ _
            | status => exact ⟨_, rfl⟩
            | arg i => exact ⟨_, rfl⟩
            | res i => exact ⟨_, rfl⟩
          · exact ⟨_, rfl⟩
        | pollStatus => exact ⟨_, rfl⟩
  | sequencer => exact ⟨_, rfl⟩
  | slowClock => exact ⟨_, rfl⟩
  | refClock => exact ⟨_, rfl⟩
  | targetClock => exact ⟨_, rfl⟩
  | settle => exact ⟨_, rfl⟩
  | pllLock k => exact ⟨_, rfl⟩
  | conditions w r => exact ⟨_, rfl⟩

end Sys2Proof.Machine
end

