-- ==== Sys2Proof/Tests/Slice0.lean ====
section
/-! SUPPORT. The author's tests. Expected values come from the tables of spec/30_encoding.md and the vectors of spec/95_test_vectors.md,
named at each test, and never from the model. The witnesses at the end show that each statement's hypotheses can be met. -/

set_option maxRecDepth 4000

namespace Sys2Proof.Tests

open Sys2Proof Sys2Proof.Machine

/-! ### Helpers -/

/-- Reset with `ARG` = `a`, all four written. -/
def withArgs (a : Vector Word 4) : State :=
  { State.reset with
    io := { State.reset.io with arg := a }
    ghost := { State.reset.ghost with argW := #v[true, true, true, true] } }

/-- `s` with `PHASE` = `p`. -/
def inPhase (p : Phase) (s : State) : State :=
  { s with st := { s.st with phase := p } }

/-- `s` with `SLEEP_STATE` = PREPARING. -/
def preparing (s : State) : State :=
  { s with st := { s.st with sleepState := .preparing } }

/-- `s` with the host's program. -/
def hosting (l : List HostOp) (s : State) : State :=
  { s with bench := { s.bench with program := l } }

/-- `s` with agent `a` next. -/
def scheduling (a : Agent) (s : State) : State :=
  { s with bench := { s.bench with schedule := [a] } }

/-- The state a step leads to. -/
def after : Result → State
  | .next t => t
  | .fault _ => State.reset
  | .refused _ => State.reset

/-- One step on `s` with the command word `w` placed. -/
def issued (w : Nat) (s : State) : State :=
  after (step (s.withFetchWord 32 w))

/-- One turn of the host on `s` with the one access `op` to make. -/
def hostDoes (op : HostOp) (s : State) : State :=
  after (turn .host (hosting [op] s))

/-- 3495253, the period of a 150 kHz clock (95_test_vectors.md). -/
def p150 : Word := 3495253

/-! ### Well-formedness: one ill-formed word for each check -/

/-- `RSVD` bit 8 set (30_encoding.md R48). -/
theorem test_ill_formed_reserved :
    CmdWord.reservedZero 0x00000103 = false ∧ CmdWord.wellFormed 0x00000103 = false ∧ CmdWord.wellFormed 0x80000001 = false := by decide

/-- `OP` in each illegal range, at its ends (30_encoding.md R60). -/
theorem test_ill_formed_opcode :
    [0x00, 0x07, 0x0F, 0x12, 0x1F, 0x21, 0x2F, 0x33, 0x3F, 0x45, 0xFF].all (fun op => !CmdWord.wellFormed (BitVec.ofNat 32 op)) = true := by
  decide

/-- The neighbours of the illegal ranges are well formed (30_encoding.md R50). -/
theorem test_well_formed_edges :
    [0x01, 0x06, 0x10, 0x11, 0x20, 0x30, 0x32, 0x40, 0x44].all (fun op => CmdWord.wellFormed (BitVec.ofNat 32 op)) = true := by decide

/-! ### Decoding: the words of 30_encoding.md R50, written out -/

theorem test_decode_init : decodeTableWord 32 0x00000001 = some .init := by decide
theorem test_decode_applyDefaultClk : decodeTableWord 32 0x00000002 = some .applyDefaultClk := by decide
theorem test_decode_getXtalFreq : decodeTableWord 32 0x00000003 = some .getXtalFreq := by decide
theorem test_decode_getSlowSrc : decodeTableWord 32 0x00000004 = some .getSlowSrc := by decide
theorem test_decode_setSlowSrc : decodeTableWord 32 0x00000005 = some .setSlowSrc := by decide
theorem test_decode_getRtcCounter : decodeTableWord 32 0x00000006 = some .getRtcCounter := by decide
theorem test_decode_usToCycles : decodeTableWord 32 0x00000010 = some .usToCycles := by decide
theorem test_decode_cyclesToUs : decodeTableWord 32 0x00000011 = some .cyclesToUs := by decide
theorem test_decode_calibrate : decodeTableWord 32 0x00000020 = some .calibrate := by decide
theorem test_decode_setCpuCfg : decodeTableWord 32 0x00000030 = some .setCpuCfg := by decide
theorem test_decode_getCpuCfg : decodeTableWord 32 0x00000031 = some .getCpuCfg := by decide
theorem test_decode_switchToXtal : decodeTableWord 32 0x00000032 = some .switchToXtal := by decide
theorem test_decode_prepareSleep : decodeTableWord 32 0x00000040 = some .prepareSleep := by decide
theorem test_decode_setWakeupTime : decodeTableWord 32 0x00000041 = some .setWakeupTime := by decide
theorem test_decode_enterLightSleep : decodeTableWord 32 0x00000042 = some .enterLightSleep := by decide
theorem test_decode_enterDeepSleep : decodeTableWord 32 0x00000043 = some .enterDeepSleep := by decide
theorem test_decode_postWakeInit : decodeTableWord 32 0x00000044 = some .postWakeInit := by decide

/-- The register image of CALIBRATE, bit by bit and lowest byte first (20_memory.md R42, 30_encoding.md R48). -/
theorem test_decode_bytes :
    decodeBytes [0b00100000, 0, 0, 0, 0, 0, 0, 0] = .ok .calibrate ∧
    decodeBytes [0, 0, 0, 0b00100000, 0, 0, 0, 0] = .error .reserved ∧
    decodeBytes [0b00100000, 0, 0, 0, 1, 0, 0, 0] = .error .highWord ∧
    decodeBytes [0b00100001, 0, 0, 0, 0, 0, 0, 0] = .error .opcode ∧
    decodeBytes [0b00100000, 0, 0, 0] = .error .wrongLength := by decide

/-! ### One step of each command (95_test_vectors.md) -/

/-- K6. -/
theorem test_init : (issued 0x01 State.reset).status = 0x105 ∧ (issued 0x01 State.reset).clk.slowClkSel = .rc := by decide

/-- E15. -/
theorem test_init_repeated :
    (issued 0x01 { State.reset with st := { State.reset.st with initialised := true } }).status = 0x80706 := by decide

/-- K5. -/
theorem test_applyDefaultClk :
    (issued 0x02 { State.reset with clk := { State.reset.clk with slowClkSel := .xtal32k } }).clk.slowClkSel = .rc ∧
    (issued 0x02 State.reset).status = 0x101 := by decide

/-- K1. -/
theorem test_getXtalFreq :
    (issued 0x03 { State.reset with clk := { State.reset.clk with xtal := .mhz32 } }).io.res[0] = 32 ∧
    (issued 0x03 { State.reset with clk := { State.reset.clk with xtal := .mhz40 } }).io.res[0] = 40 := by decide

/-- K2 and the end of K3. -/
theorem test_getSlowSrc :
    (issued 0x04 State.reset).io.res[0] = 0 ∧
    (issued 0x04 { State.reset with clk := { State.reset.clk with slowClkSel := .rcD256 } }).io.res[0] = 2 := by decide

/-- K3. -/
theorem test_setSlowSrc :
    (issued 0x05 (withArgs #v[2, 0, 0, 0])).status = 0x101 ∧
    (issued 0x05 (withArgs #v[2, 0, 0, 0])).clk.slowClkSel = .rcD256 := by decide

/-- E6, E7, E8. -/
theorem test_setSlowSrc_faults :
    (issued 0x05 (withArgs #v[3, 0, 0, 0])).status = 0x20702 ∧
    (issued 0x05 (withArgs #v[0x100000001, 0, 0, 0])).status = 0x20702 ∧
    (issued 0x05 State.reset).status = 0x700 ∧ (issued 0x05 State.reset).ghost.unwrittenOperand = true := by decide

/-- K7. -/
theorem test_getRtcCounter :
    (issued 0x06 { State.reset with clk := { State.reset.clk with rtcCounter := 1234 } }).io.res[0] = 1234 := by decide

/-- T1, T6, T8, T9, T11. -/
theorem test_usToCycles :
    (issued 0x10 (withArgs #v[1000, p150, 0, 0])).io.res[0] = 150 ∧ (issued 0x10 (withArgs #v[7, p150, 0, 0])).io.res[0] = 1 ∧
    (issued 0x10 (withArgs #v[35184372088831, 524288, 0, 0])).io.res[0] = 35184372088831 ∧
    (issued 0x10 (withArgs #v[0x200000000000, 524288, 0, 0])).io.res[0] = 0 ∧
    (issued 0x10 (withArgs #v[1000, 0xFFFFFFFF, 0, 0])).io.res[0] = 0 := by decide

/-- T12, E10. -/
theorem test_usToCycles_faults :
    (issued 0x10 (withArgs #v[1000, 0, 0, 0])).status = 0x30702 ∧
    (issued 0x10 (withArgs #v[1000, 0x100000000, 0, 0])).status = 0x20702 := by decide

/-- T13, T19, T20, T21, T23. -/
theorem test_cyclesToUs :
    (issued 0x11 (withArgs #v[150, p150, 0, 0])).io.res[0] = 999 ∧ (issued 0x11 (withArgs #v[1, 0xFFFFFFFF, 0, 0])).io.res[0] = 8191 ∧
    (issued 0x11 (withArgs #v[0xFFFFFFFFFFFFFFFF, 524288, 0, 0])).io.res[0] = 35184372088831 ∧
    (issued 0x11 (withArgs #v[0x200000000000, 524288, 0, 0])).io.res[0] = 0 ∧
    (issued 0x11 (withArgs #v[5, 0, 0, 0])).status = 0x30702 := by decide

/-- E11. -/
theorem test_calibrate_zero_count : (issued 0x20 (withArgs #v[0, 0, 0, 0])).status = 0x20702 := by decide

/-- F1 to F4, F7, F8, F11 to F14. -/
theorem test_period :
    period .mhz40 2667 10 = 3495690 ∧ period .mhz40 2666 10 = 3494379 ∧ period .mhz32 2133 10 = 3494707 ∧
    period .mhz32 2134 10 = 3496345 ∧ period .mhz40 10 10 = 13107 ∧ period .mhz32 10 10 = 16384 ∧
    period .mhz40 327679 1 = 4294954188 ∧ period .mhz40 327680 1 = 0 ∧
    period .mhz32 262143 1 = 4294950912 ∧ period .mhz32 262144 1 = 0 := by decide

/-- C4: a zero divider is never valid. -/
theorem test_setCpuCfg_zero_div : (issued 0x30 (withArgs #v[0, 40, 0, 0])).status = 0x40702 := by decide

/-- C9. -/
theorem test_setCpuCfg_preparing : (issued 0x30 (preparing (withArgs #v[0, 40, 3, 14]))).status = 0x50712 := by decide

/-- Program P2, its second line. -/
theorem test_getCpuCfg :
    (issued 0x31 { State.reset with cpu := { State.reset.cpu with
      activeCfg := { src := .pll, srcMhz := 480, div := 6, resMhz := 80 } } }).io.res = #v[1, 480, 6, 80] := by decide

/-- C12, C13. -/
theorem test_switchToXtal :
    (issued 0x32 { State.reset with clk := { State.reset.clk with xtal := .mhz40 } }).cpu.activeCfg
      = { src := .xtal, srcMhz := 40, div := 1, resMhz := 40 } ∧
    (issued 0x32 (preparing State.reset)).status = 0x10 := by decide

/-- Z1. -/
theorem test_prepareSleep :
    (issued 0x40 (withArgs #v[0x110, 0, 0, 0])).slp.pdCfg = 0x110 ∧ (issued 0x40 (withArgs #v[0x110, 0, 0, 0])).slp.pdRes = 0x10C ∧
    (issued 0x40 (withArgs #v[0x110, 0, 0, 0])).slp.domainOff = 0 ∧
    (issued 0x40 (withArgs #v[0x110, 0, 0, 0])).status = 0x10 := by decide

/-- E12. -/
theorem test_prepareSleep_reserved : (issued 0x40 (withArgs #v[0x400, 0, 0, 0])).status = 0x20702 := by decide

/-- The `Resolve` table of section 2.7. -/
theorem test_resolve :
    resolve 0x000 = 0x000 ∧ resolve 0x001 = 0x001 ∧ resolve 0x00C = 0x00C ∧ resolve 0x010 = 0x000 ∧ resolve 0x011 = 0x00D ∧
    resolve 0x01C = 0x000 ∧ resolve 0x100 = 0x100 ∧ resolve 0x110 = 0x10C ∧ resolve 0x3FF = 0x3EF ∧
    resolve (0x01C ||| 0x001) = 0x00D ∧ resolve (0x110 ||| 0x001) = 0x10D := by decide

/-- Z7. -/
theorem test_setWakeupTime :
    (issued 0x41 (withArgs #v[6000, 0, 0, 0])).slp.wakeupTime = 6000 ∧ (issued 0x41 (withArgs #v[6000, 0, 0, 0])).status = 0x8 := by
  decide

/-- Z8, Z9. -/
theorem test_enterLightSleep_faults :
    (issued 0x42 (withArgs #v[1, 0, 0, 0])).status = 0x50702 ∧
    (issued 0x42 (preparing (withArgs #v[8, 0, 0, 0]))).status = 0x70712 := by decide

/-- Z11, Z17. -/
theorem test_enterLightSleep :
    let live := { preparing (withArgs #v[0, 6, 0, 0]) with env := { wakeCond := 0, rejectCond := 0xC } }
    let flags := preparing (withArgs #v[1, 0, 7, 0])
    let ready := { flags with slp := { flags.slp with pdRes := 0x101 } }
    (issued 0x42 live).io.res[0] = 4 ∧ (issued 0x42 live).status = 0 ∧ (issued 0x42 live).slp = State.reset.slp ∧
    (issued 0x42 ready).slp.domainOff = 0x101 ∧ (issued 0x42 ready).slp.cpuHalted = true ∧ (issued 0x42 ready).slp.memPolicy = 7 ∧
    (issued 0x42 ready).status = 0x421 := by
  refine ⟨by decide, by decide, rfl, by decide, by decide, by decide, by decide⟩

/-- Z10, Z18. -/
theorem test_enterDeepSleep_rejected :
    (issued 0x43 (withArgs #v[8, 0, 0, 0])).status = 0x50702 ∧
    (issued 0x43 { preparing (withArgs #v[1, 2, 0, 0]) with env := { wakeCond := 0, rejectCond := 2 } }).io.res[0] = 2 := by decide

/-- Z19. -/
theorem test_enterDeepSleep :
    let s := preparing (withArgs #v[1, 0, 0, 0])
    let s := { s with slp := { s.slp with pdCfg := 0x010 } }
    (issued 0x43 s).slp.domainOff = 0x00D ∧ (issued 0x43 s).st.phase = .deepSleep := by decide

/-- Z4, without the microseconds. -/
theorem test_postWakeInit : (issued 0x44 (withArgs #v[3495690, 0, 0, 0])).slp.slowClkPeriod = 3495690 := by decide

/-- Z5, Z6. -/
theorem test_postWakeInit_faults :
    (issued 0x44 (withArgs #v[0, 0, 0, 0])).status = 0x30702 ∧
    (issued 0x44 (withArgs #v[0x100000000, 0, 0, 0])).status = 0x20702 := by decide

/-! ### The window and the other agents (95_test_vectors.md) -/

/-- M1, M2, M4, M5. -/
theorem test_window_reads :
    (hostDoes (.read 0x00 8) State.reset).bench.busData = 0 ∧ (hostDoes (.read 0x08 8) State.reset).bench.busData = 0 ∧
    (hostDoes (.read 0x10 8) (withArgs #v[0x1234, 0, 0, 0])).bench.busData = 0x1234 ∧
    (hostDoes (.read 0x30 8) State.reset).ghost.unwrittenResult = true ∧
    (hostDoes (.read 0x30 8) State.reset).status = 0x700 := by decide

/-- M3, M4, M10. -/
theorem test_window_writes :
    (hostDoes (.write 0x08 8 0xFFFF) State.reset).status = 0 ∧ (hostDoes (.write 0x10 8 0x1234) State.reset).io.arg[0] = 0x1234 ∧
    (hostDoes (.write 0x10 8 0x1234) State.reset).ghost.argW[0] = true ∧
    (hostDoes (.write 0x30 8 5) State.reset).io.res[0] = State.reset.io.res[0] := by decide

/-- M7, M8, M9. -/
theorem test_refused_accesses :
    (hostDoes (.read 0x08 4) State.reset).ghost.refused = true ∧ (hostDoes (.read 0x0C 8) State.reset).ghost.refused = true ∧
    (hostDoes (.read 0x50 8) State.reset).ghost.refused = true ∧
    (hostDoes (.read 0x50 8) State.reset).bench.program = [.read 0x50 8] := by decide

/-- E2 to E5. -/
theorem test_illegal_commands :
    (hostDoes (.write 0x00 8 0x100000003) State.reset).status = 0x10702 ∧
    [0x103, 0x00, 0x07, 0x0F, 0x12, 0x21, 0x33, 0x45, 0xFF].all (fun w => (issued w State.reset).status == 0x10702) = true := by decide

/-- E13, E14. -/
theorem test_busy_and_dead :
    let settling := { inPhase .settling State.reset with clk := { State.reset.clk with slowClkSel := .xtal32k } }
    (hostDoes (.write 0x00 8 0x100000003) settling).status = 0x60702 ∧
    (hostDoes (.write 0x00 8 0x100000003) settling).clk.slowClkSel = .xtal32k ∧
    (hostDoes (.write 0x00 8 3) (hostDoes (.write 0x00 8 0x100000003) State.reset)).status = 0x10702 := by decide

/-- K9. -/
theorem test_slow_clock_stops :
    (after (turn .slowClock { State.reset with clk := { State.reset.clk with rtcCounter := 0xFFFFFFFFFFFFFFFF } })).clk.rtcCounter
      = 0xFFFFFFFFFFFFFFFF := by decide

/-- Z15: input bit 3 is no timer (10_state.md R33). -/
theorem test_wake_condition_bit3 :
    let s := { State.reset with env := { wakeCond := 8, rejectCond := 0 }, slp := { State.reset.slp with wakeupTime := 1 } }
    s.wakeLive 8 = false ∧ s.wakeLive 0xFFFFFFFF = false ∧ State.reset.wakeLive 8 = true := by decide

/-! ### The assembler (30_encoding.md R62, the programs of 95_test_vectors.md) -/

/-- P2, its first line. -/
theorem test_assemble_names :
    assembleLine "SET_CPU_CFG PLL, 480, 6, 80".toList =
      some [.write 0x10 8 1, .write 0x18 8 480, .write 0x20 8 6, .write 0x28 8 80, .write 0x00 8 0x30, .pollStatus] := by decide

/-- P4. -/
theorem test_assemble_joined :
    assembleLine "PREPARE_SLEEP PD_RTC_PERIPH|PD_WIFI".toList = some [.write 0x10 8 0x042, .write 0x00 8 0x40, .pollStatus] ∧
    assembleLine "ENTER_DEEP_SLEEP TIMER_WAKEUP, 0x6".toList =
      some [.write 0x10 8 8, .write 0x18 8 6, .write 0x00 8 0x43, .pollStatus] ∧
    assembleLine "INIT".toList = some [.write 0x00 8 0x01, .pollStatus] ∧
    assembleLine "PREPARE_SLEEP RTC_SLEEP_PD_DIG | RTC_SLEEP_PD_CPU".toList =
      some [.write 0x10 8 0x101, .write 0x00 8 0x40, .pollStatus] ∧
    assembleLine "SET_SLOW_SRC RC|XTAL32K".toList = none ∧ assembleLine "NOP".toList = none ∧ assembleLine "PREPARE_SLEEP".toList = none := by decide

/-! ### Witnesses: the hypotheses of each statement can be met, clause by clause -/

/-- Reset in FAULTED after a fault of code 1, with the code given. -/
def faultedState : State :=
  { State.reset with st := { State.reset.st with phase := .faulted, fault := true, cause := 1 } }

/-- Reset asleep in LIGHT_SLEEP with the timer enabled and the target 1. -/
def lightAsleep : State :=
  { State.reset with
    st := { State.reset.st with phase := .lightSleep, sleepState := .lightSleeping, wakeTimeValid := true }
    slp := { State.reset.slp with wakeOpt := 8, wakeupTime := 1, cpuHalted := true } }

/-- Reset in the middle of a calibration that has reached its count 1 with one reference tick. -/
def calibrated : State :=
  { State.reset with
    st := { State.reset.st with phase := .calibrating }
    cal := { target := .rtcMux, n := 1, tcnt := 1, acc := 1, refSeen := false } }

/-- Reset waiting for the PLL, with `locked` its lock. -/
def warming (locked : Bool) : State :=
  { State.reset with
    st := { State.reset.st with phase := .pllWait }
    cpu := { State.reset.cpu with
      pll := { en := true, freq := 480, locked := locked }
      pendingCfg := { src := .pll, srcMhz := 480, div := 1, resMhz := 480 } } }

/-- A divider of 1 is always valid. -/
theorem valid_div_one (src : CpuSrc) (mhz : BitVec 32) : ({ src := src, srcMhz := mhz, div := 1, resMhz := mhz } : CpuCfg).valid = true := by
  have := Config.cpuDivMax_pos
  simp [CpuCfg.valid]
  omega

theorem test_witness_CmdWriteFaultedBusyIllegalOrIssued :
    faultedState.st.phase = .faulted ∧ (inPhase .settling State.reset).busy = true ∧ (inPhase .deepSleep State.reset).busy = true ∧
    State.reset.st.phase = .idle ∧ (0x100000003 : Word).extractLsb 63 32 ≠ 0 ∧
    CmdWord.wellFormed ((0x103 : Word).extractLsb 31 0) = false ∧ CmdWord.wellFormed ((0x45 : Word).extractLsb 31 0) = false ∧
    (0x44 : Word).extractLsb 63 32 = 0 ∧ CmdWord.wellFormed ((0x44 : Word).extractLsb 31 0) = true ∧
    faultedState.hostHalted = false ∧ (inPhase .settling State.reset).hostHalted = false ∧
    (hosting [.write 0x00 8 0x44] State.reset).bench.program = [.write 0x00 8 0x44] := by decide

theorem test_witness_StepRunsDecodedCommand :
    let s := scheduling .host (hosting [.write 0x00 8 0x44] State.reset)
    s.bench.schedule = [.host] ∧ s.bench.program = [.write 0x00 8 0x44] ∧ s.st.phase = .idle ∧
    decodeValue 0x44 = .ok .postWakeInit ∧ Instr.wellFormed .postWakeInit = true := by decide

theorem test_witness_HostReadsOfTheWindow :
    State.reset.hostHalted = false ∧ (hosting [.read 0x00 8] State.reset).bench.program = [.read 0x00 8] ∧
    (hosting [.read (0x10 + 8 * ((3 : Fin 4).val : Int)) 8] (withArgs #v[0, 0, 0, 9])).ghost.argW[(3 : Fin 4)] = true ∧
    (issued 0x04 State.reset).ghost.resW[(0 : Fin 4)] = true ∧ (issued 0x04 State.reset).hostHalted = false ∧
    State.reset.ghost.resW[(3 : Fin 4)] = false ∧ State.reset.ghost.argW[(3 : Fin 4)] = false := by decide

theorem test_witness_HostWritesOfTheWindow :
    (inPhase .faulted State.reset).hostHalted = false ∧
    (hosting [.write (0x10 + 8 * ((3 : Fin 4).val : Int)) 8 7] State.reset).bench.program = [.write 0x28 8 7] ∧
    (hosting [.write (0x30 + 8 * ((3 : Fin 4).val : Int)) 8 7] State.reset).bench.program = [.write 0x48 8 7] := by decide

theorem test_witness_InadmissibleAccessIsRefused :
    State.reset.hostHalted = false ∧ (4 : Nat) ≠ 8 ∧ (-8 : Int) < 0 ∧ (0x50 : Int) ≤ 0x50 ∧ (0x0C : Int) % 8 ≠ 0 ∧
    (hosting [.read 0x50 8] State.reset).bench.program = [.read 0x50 8] := by decide

theorem test_witness_WindowAtBaseIsLittleEndian :
    (7 : Nat) < 8 ∧ (withArgs #v[0, 0, 0, 0x8000000000000000]).ghost.argW[(3 : Fin 4)] = true ∧
    windowByte (withArgs #v[0, 0, 0, 0x8000000000000000]) 0x2F = some 0x80 := by decide

theorem test_witness_HaltedHostWaitsAndPollRepeats :
    lightAsleep.st.phase = .lightSleep ∧
    (hosting [.pollStatus] (inPhase .settling State.reset)).busy = true ∧ (inPhase .settling State.reset).hostHalted = false ∧
    (hosting [.pollStatus] State.reset).busy = false ∧ (hosting [.pollStatus] State.reset).bench.program = [.pollStatus] := by decide

theorem test_witness_AssembledLineIssuesItsCommand :
    ([2] : List Word).length = (operandFormat .setSlowSrc).length ∧ ([] : List Word).length = (operandFormat .init).length ∧
    ([0, 40, 1, 40] : List Word).length = (operandFormat .setCpuCfg).length ∧ State.reset.st.phase = .idle ∧
    (hosting (assemble .setSlowSrc [2]) State.reset).bench.program = assemble .setSlowSrc [2] ++ [] := by decide

theorem test_witness_OperandChecksComeFirst :
    operandsWritten .usToCycles State.reset = false ∧ operandsWritten .setSlowSrc (withArgs #v[3, 0, 0, 0]) = true ∧
    operandsLegal .setSlowSrc (withArgs #v[3, 0, 0, 0]) = false ∧
    operandsLegal .prepareSleep (withArgs #v[0x400, 0, 0, 0]) = false := by decide

theorem test_witness_ZeroPeriodRaisesDivideByZero :
    Expect.Ready .usToCycles (withArgs #v[5, 0, 0, 0]) ∧ Expect.Ready .cyclesToUs (withArgs #v[5, 0, 0, 0]) ∧
    Expect.Ready .postWakeInit (withArgs #v[0, 0, 0, 0]) ∧ (withArgs #v[5, 0, 0, 0]).io.arg[1] = 0 := by
  refine ⟨⟨?_, ?_⟩, ⟨?_, ?_⟩, ⟨?_, ?_⟩, ?_⟩ <;> decide

theorem test_witness_InitAndSetCpuCfgChecks :
    (issued 0x01 State.reset).st.initialised = true ∧ Expect.Ready .setCpuCfg (withArgs #v[3, 40, 0, 0]) ∧
    (withArgs #v[3, 40, 0, 0]).io.arg[2].toNat = 0 ∧ (withArgs #v[3, 40, 0, 0]).st.sleepState ≠ .preparing ∧
    Expect.Ready .setCpuCfg (preparing (withArgs #v[0, 40, 3, 13])) ∧
    (preparing (withArgs #v[0, 40, 3, 13])).st.sleepState = .preparing ∧
    Expect.Ready .setCpuCfg (withArgs #v[0, 40, 3, 14]) ∧
    (withArgs #v[0, 40, 3, 14]).io.arg[3].toNat ≠ (withArgs #v[0, 40, 3, 14]).io.arg[1].toNat / (withArgs #v[0, 40, 3, 14]).io.arg[2].toNat := by
  refine ⟨?_, ⟨?_, ?_⟩, ?_, ?_, ⟨?_, ?_⟩, ?_, ⟨?_, ?_⟩, ?_⟩ <;> decide

theorem test_witness_SleepEntryChecks :
    Expect.Ready .enterLightSleep (withArgs #v[8, 0, 0, 0]) ∧ (withArgs #v[8, 0, 0, 0]).st.sleepState ≠ .preparing ∧
    Expect.Ready .enterDeepSleep (preparing (withArgs #v[8, 0, 0, 0])) ∧
    (preparing (withArgs #v[8, 0, 0, 0])).st.sleepState = .preparing ∧
    (preparing (withArgs #v[8, 0, 0, 0])).io.arg[0].getLsbD 3 = true ∧
    (preparing (withArgs #v[8, 0, 0, 0])).st.wakeTimeValid = false := by
  refine ⟨⟨?_, ?_⟩, ?_, ⟨?_, ?_⟩, ?_, ?_, ?_⟩ <;> decide

theorem test_witness_CommandFaultsArePrecise :
    ∃ t, exec .postWakeInit (withArgs #v[0, 0, 0, 0]) = .next t ∧ t.st.phase = .faulted :=
  ⟨_, rfl, by decide⟩

theorem test_witness_FaultedStateIsNeverLeft :
    ∃ t, step (scheduling .slowClock faultedState) = .next t ∧ (scheduling .slowClock faultedState).st.phase = .faulted ∧
      t.clk.rtcCounter = 1 :=
  ⟨_, rfl, by decide, by decide⟩

theorem test_witness_DutifulHostRaisesOnlyOwnChecks :
    ∃ t, let s := hosting [.write 0x00 8 0x05] (withArgs #v[3, 0, 0, 0])
      s.good = true ∧ s.bench.program = [.write 0x00 8 0x05] ∧ hostDuty (.write 0x00 8 0x05) s = true ∧
      turn .host s = .next t ∧ t.st.cause = 2 :=
  ⟨after (turn .host (hosting [.write 0x00 8 0x05] (withArgs #v[3, 0, 0, 0]))), by decide, rfl, by decide, rfl, by decide⟩

/-- The duties of R128 at a zero period, an unwritten operand, a busy block, and a result read early. -/
theorem test_host_duty :
    hostDuty (.write 0x00 8 0x44) (withArgs #v[0, 0, 0, 0]) = false ∧ hostDuty (.write 0x00 8 0x44) (withArgs #v[1, 0, 0, 0]) = true ∧
    hostDuty (.write 0x00 8 0x10) (withArgs #v[1, 0, 0, 0]) = false ∧ hostDuty (.write 0x00 8 0x10) State.reset = false ∧
    hostDuty (.write 0x00 8 0x02) (inPhase .settling State.reset) = false ∧
    hostDuty (.read 0x30 8) (issued 0x04 State.reset) = true ∧
    hostDuty (.read 0x30 8) (inPhase .calibrating (issued 0x04 State.reset)) = false := by decide

/-- The duties of R128 that the order of the accesses shows. -/
theorem test_program_duty :
    programDuty none true (assemble .getCpuCfg [] ++ [.read 0x48 8]) = true ∧
    programDuty none true [.write 0x00 8 0x31, .read 0x48 8] = false ∧
    programDuty none true (assemble .getSlowSrc [] ++ [.read 0x48 8]) = false ∧
    programDuty none true [.write 0x00 8 0x02, .write 0x00 8 0x02] = false ∧
    programDuty none true (assemble .setSlowSrc [1] ++ assemble .getSlowSrc [] ++ [.read 0x30 8]) = true := by decide

/-- The end of a run (60_exceptions.md R129), with and without a boot path. -/
theorem test_run_ends_at_deep_wake :
    let asleep := { inPhase .deepSleep lightAsleep with env := { wakeCond := 8, rejectCond := 0 }, clk := { lightAsleep.clk with rtcCounter := 1 } }
    let asleep := { asleep with bench := { asleep.bench with bootProgram := [.pollStatus] } }
    asleep.runEnded = false ∧ (after (turn .sequencer asleep)).runEnded = true ∧ State.reset.runEnded = true ∧
    (hosting [.pollStatus] State.reset).runEnded = false := by decide

/-- S8 and S11: the outcomes of the two sleep entries (44_sleep_orchestrator.md R110). -/
theorem test_sleep_outcomes :
    let s := { preparing State.reset with env := { wakeCond := 0, rejectCond := 0xC } }
    deepSleepResult 0 0x6 s = .ok (.rejected 0x4) ∧ deepSleepResult 0 0x1 s = .ok .noReturn ∧
    lightSleepResult 0 0x1 s = .ok .woke ∧ lightSleepResult 8 0x1 s = .error .wakeupTimeUnset ∧
    lightSleepReading 0 = .woke ∧ lightSleepReading 4 = .rejected 4 := by decide

theorem test_witness_SlowClockCommandsSelectAndSettle :
    (withArgs #v[2, 0, 0, 0]).ghost.argW[0] = true ∧ (withArgs #v[2, 0, 0, 0]).io.arg[0] = zext64 (SlowSrc.code .rcD256) ∧
    State.reset.st.initialised = false := by decide

theorem test_witness_UsToCyclesDividesTheShiftedDuration :
    (withArgs #v[1000, p150, 0, 0]).ghost.argW[0] = true ∧ (withArgs #v[1000, p150, 0, 0]).ghost.argW[1] = true ∧
    (withArgs #v[1000, p150, 0, 0]).io.arg[1] = zext64 (3495253 : BitVec 32) ∧ (3495253 : BitVec 32) ≠ 0 ∧
    (withArgs #v[1000, 0, 0, 0]).io.arg[1] = 0 ∧ (withArgs #v[1000, 0x100000000, 0, 0]).io.arg[1].extractLsb 63 32 ≠ 0 ∧
    State.reset.ghost.argW[1] = false := by decide

theorem test_witness_CyclesToUsShiftsTheProduct :
    (withArgs #v[150, 0xFFFFFFFF, 0, 0]).ghost.argW[0] = true ∧ (withArgs #v[150, 0xFFFFFFFF, 0, 0]).ghost.argW[1] = true ∧
    (withArgs #v[150, 0xFFFFFFFF, 0, 0]).io.arg[1] = zext64 (0xFFFFFFFF : BitVec 32) ∧ (0xFFFFFFFF : BitVec 32) ≠ 0 ∧
    (withArgs #v[5, 0, 0, 0]).io.arg[1] = 0 ∧ (withArgs #v[5, 0xFFFFFFFF00000000, 0, 0]).io.arg[1].extractLsb 63 32 ≠ 0 ∧
    State.reset.ghost.argW[0] = false := by decide

theorem test_witness_CalibrateStartsFromZero :
    (withArgs #v[3, 1, 0, 0]).ghost.argW[0] = true ∧ (withArgs #v[3, 1, 0, 0]).ghost.argW[1] = true ∧
    (withArgs #v[3, 1, 0, 0]).io.arg[0] = zext64 (CalTarget.code .rcD256) ∧
    (withArgs #v[3, 1, 0, 0]).io.arg[1] = zext64 (1 : BitVec 32) ∧ 1 ≤ (1 : BitVec 32).toNat ∧
    (1 : BitVec 32).toNat ≤ Config.calMaxCycles.toNat :=
  ⟨by decide, by decide, by decide, by decide, by decide, Config.calMaxCycles_pos⟩

theorem test_witness_SetCpuCfgSwitchesDirectly :
    let s := withArgs #v[2, 8, 1, 8]
    let cfg : CpuCfg := { src := .rc8m, srcMhz := 8, div := 1, resMhz := 8 }
    operandsWritten .setCpuCfg s = true ∧ s.io.arg[0] = zext64 cfg.src.code ∧ s.io.arg[1] = zext64 cfg.srcMhz ∧
    s.io.arg[2] = zext64 cfg.div ∧ s.io.arg[3] = zext64 cfg.resMhz ∧ s.st.sleepState ≠ .preparing ∧ cfg.valid = true ∧
    (cfg.src = .xtal ∨ cfg.src = .rc8m) :=
  ⟨by decide, by decide, by decide, by decide, by decide, by decide, valid_div_one _ _, by decide⟩

theorem test_witness_SetCpuCfgWarmsUpThePll :
    let s := withArgs #v[3, 480, 1, 480]
    let cfg : CpuCfg := { src := .apll, srcMhz := 480, div := 1, resMhz := 480 }
    operandsWritten .setCpuCfg s = true ∧ s.io.arg[0] = zext64 cfg.src.code ∧ s.io.arg[1] = zext64 cfg.srcMhz ∧
    s.io.arg[2] = zext64 cfg.div ∧ s.io.arg[3] = zext64 cfg.resMhz ∧ s.st.sleepState ≠ .preparing ∧ cfg.valid = true ∧
    (withArgs #v[1, 480, 1, 480]).io.arg[0] = zext64 (CpuSrc.code .pll) :=
  ⟨by decide, by decide, by decide, by decide, by decide, by decide, valid_div_one _ _, by decide⟩

theorem test_witness_PrepareSleepProgramsFlagsAndTimings :
    (withArgs #v[0x3FF, 0, 0, 0]).ghost.argW[0] = true ∧ (withArgs #v[0x3FF, 0, 0, 0]).io.arg[0] = zext64 (0x3FF : PowerFlags) ∧
    (withArgs #v[0x3FF, 0, 0, 0]).slp.slowClkPeriod ≠ 0 :=
  ⟨by decide, by decide, Config.defaultPeriod_ne_zero⟩

theorem test_witness_SetWakeupTimeSetsTargetAndValid :
    (withArgs #v[0, 0, 0, 0]).ghost.argW[0] = true ∧ State.reset.ghost.argW[0] = false := by decide

theorem test_witness_EnterLightSleepCommits :
    let s := preparing (withArgs #v[0xFFFFFFF7, 0xFFFFFFFF, 7, 0])
    operandsWritten .enterLightSleep s = true ∧ s.io.arg[0] = zext64 (0xFFFFFFF7 : BitVec 32) ∧
    s.io.arg[1] = zext64 (0xFFFFFFFF : BitVec 32) ∧ s.io.arg[2] = zext64 (7 : BitVec 32) ∧ s.st.sleepState = .preparing ∧
    ((0xFFFFFFF7 : BitVec 32).getLsbD 3 = true → s.st.wakeTimeValid = true) ∧ (0xFFFFFFFF : BitVec 32) &&& s.env.rejectCond = 0 := by
  decide

theorem test_witness_EnterDeepSleepCommits :
    let s := preparing (withArgs #v[8, 1, 0, 0])
    let s := { s with st := { s.st with wakeTimeValid := true } }
    operandsWritten .enterDeepSleep s = true ∧ s.io.arg[0] = zext64 (8 : BitVec 32) ∧ s.io.arg[1] = zext64 (1 : BitVec 32) ∧
    s.st.sleepState = .preparing ∧ ((8 : BitVec 32).getLsbD 3 = true → s.st.wakeTimeValid = true) ∧
    (1 : BitVec 32) &&& s.env.rejectCond = 0 := by decide

theorem test_witness_RejectedSleepReturnsTheMatchingMask :
    let s := { preparing (withArgs #v[0, 6, 0, 0]) with env := { wakeCond := 0, rejectCond := 0xC } }
    Expect.Ready .enterLightSleep s ∧ Expect.Ready .enterDeepSleep s ∧ s.io.arg[0] = zext64 (0 : BitVec 32) ∧
    s.io.arg[1] = zext64 (6 : BitVec 32) ∧ s.st.sleepState = .preparing ∧
    ((0 : BitVec 32).getLsbD 3 = true → s.st.wakeTimeValid = true) ∧ (6 : BitVec 32) &&& s.env.rejectCond ≠ 0 := by
  refine ⟨⟨?_, ?_⟩, ⟨?_, ?_⟩, ?_, ?_, ?_, ?_, ?_⟩ <;> decide

theorem test_witness_PostWakeInitReloadsTimings :
    (withArgs #v[1, 0, 0, 0]).ghost.argW[0] = true ∧ (withArgs #v[1, 0, 0, 0]).io.arg[0] = zext64 (1 : BitVec 32) ∧
    (1 : BitVec 32) ≠ 0 := by decide

theorem test_witness_ResolveFollowsTheCpu : (9 : Nat) < 10 ∧ (resolve 0x210).getLsbD 9 = true := by decide

theorem test_witness_ConversionRoundTripBounds :
    (3495253 : BitVec 32) ≠ 0 ∧ (0x1FFFFFFFFFFF : Word).toNat < 2 ^ 45 ∧
    (0xFFFFFFFF : Word).toNat * (0xFFFFFFFF : BitVec 32).toNat < 2 ^ 64 := by decide

theorem test_witness_ConversionsExactOnTheirDomains : (0xFFFFFFFF : BitVec 32) ≠ 0 := by decide

theorem calibrated_inv : CalibratorInv calibrated where
  count_pos _ := by decide
  count_max _ := Config.calMaxCycles_pos
  tcnt_le _ := by decide
  acc_ge _ := by decide
  acc_le _ := Config.le_calTimeout 1

theorem test_witness_FinishedCalibrationResultRange :
    ∃ t, CalibratorInv calibrated ∧ calibrated.st.phase = .calibrating ∧ calibrated.cal.tcnt = calibrated.cal.n ∧
      turn .sequencer calibrated = .next t :=
  ⟨_, calibrated_inv, rfl, rfl, rfl⟩

theorem test_witness_TicksSettleLockAndConditions :
    State.reset.clk.rtcCounter.toNat < 2 ^ 64 - 1 ∧ (0xFFFFFFFFFFFFFFFF : Word).toNat = 2 ^ 64 - 1 ∧
    (inPhase .settling State.reset).st.phase = .settling ∧ State.reset.st.phase ≠ .settling ∧
    (warming false).cpu.pll.en = true ∧ (warming false).cpu.pll.locked = false ∧ (warming true).cpu.pll.locked = true ∧
    State.reset.cpu.apll.en = false ∧ ((warming false).cpu.setPll .apll { en := true, freq := 0, locked := false }).apll.en = true := by
  decide

theorem test_witness_CalibratorTicks :
    let s := { calibrated with cal := { calibrated.cal with tcnt := 0, acc := 0 } }
    s.st.phase = .calibrating ∧ s.cal.tcnt.toNat < s.cal.n.toNat ∧ s.cal.acc.toNat < (Config.calTimeout s.cal.n).toNat ∧
    s.cal.refSeen = false ∧ calibrated.cal.n.toNat ≤ calibrated.cal.tcnt.toNat ∧ State.reset.st.phase ≠ .calibrating := by
  refine ⟨rfl, by decide, ?_, rfl, by decide, by decide⟩
  exact Nat.lt_of_lt_of_le (by decide) (Config.le_calTimeout 1)

/-- The second clause of `CalibratorTicks`, with a reference tick seen, and the timeout's state. -/
theorem test_witness_CalibrationDoneAndTimeout :
    let s := { calibrated with cal := { calibrated.cal with tcnt := 0, acc := Config.calTimeout 1, refSeen := true } }
    let early := { calibrated with cal := { calibrated.cal with tcnt := 0, acc := 0 } }
    calibrated.st.phase = .calibrating ∧ calibrated.cal.tcnt = calibrated.cal.n ∧
    s.cal.tcnt.toNat < s.cal.n.toNat ∧ s.cal.acc = Config.calTimeout s.cal.n ∧ s.cal.refSeen = true ∧
    early.cal.tcnt.toNat < early.cal.n.toNat ∧ early.cal.acc ≠ Config.calTimeout early.cal.n := by
  refine ⟨rfl, rfl, by decide, rfl, rfl, by decide, ?_⟩
  intro h
  have h1 : 1 ≤ (Config.calTimeout 1).toNat := Config.le_calTimeout 1
  have h0 : (Config.calTimeout 1).toNat = 0 := congrArg BitVec.toNat h.symm
  omega

theorem test_witness_PllReadyAppliesPendingConfiguration :
    (warming true).st.phase = .pllWait ∧ (warming true).cpu.pendingCfg.src.pll? = some .pll ∧
    ((warming true).cpu.pllOf .pll).locked = true ∧ ((warming false).cpu.pllOf .pll).locked = false := by decide

theorem test_witness_LightSleepWakesAndRestores :
    lightAsleep.st.phase = .lightSleep ∧ lightAsleep.wakeLive lightAsleep.slp.wakeOpt = false ∧
    ({ lightAsleep with clk := { lightAsleep.clk with rtcCounter := 1 } } : State).wakeLive 8 = true ∧
    (inPhase .waking lightAsleep).st.phase = .waking := by decide

theorem test_witness_DeepSleepWakeResetsTheBlock :
    let s := inPhase .deepSleep lightAsleep
    s.st.phase = .deepSleep ∧ s.wakeLive s.slp.wakeOpt = false ∧
    ({ s with env := { wakeCond := 1, rejectCond := 0 } } : State).wakeLive 1 = true := by decide

/-- A fault is raised from this state, in which nothing is wrong. -/
theorem test_witness_EveryStepKeepsFaultInvariant :
    ∃ s t, FaultInv s ∧ step s = .next t ∧ t.st.fault = true := by
  refine ⟨scheduling .host (hosting [.write 0x00 8 0] (inPhase .settling State.reset)), _, ⟨?_, ?_, ?_, ?_, ?_⟩, rfl, by decide⟩
  · exact fun _ => rfl
  · intro h; cases h
  · intro h; cases h
  · rintro (h | h) <;> cases h
  · intro h; cases h

/-- The wake step of a light sleep. -/
theorem test_witness_EveryStepKeepsSleepStateInvariant :
    ∃ s t, SleepStateInv s ∧ step s = .next t ∧ t.st.sleepState = .waking := by
  refine ⟨scheduling .sequencer { lightAsleep with clk := { lightAsleep.clk with rtcCounter := 1 } }, _, ⟨?_, ?_, ?_⟩, rfl, by decide⟩ <;>
    decide

/-- The ready step of a warm-up. -/
theorem test_witness_EveryStepKeepsCpuClockInvariant :
    ∃ s t, CpuClockInv s ∧ step s = .next t ∧ t.cpu.muxSel = .pll := by
  refine ⟨scheduling .sequencer (warming true), _, ⟨rfl, valid_div_one _ _, ?_, ?_, fun _ => ⟨rfl, rfl⟩, fun _ => ⟨valid_div_one _ _, .pll, rfl, rfl⟩,
    ?_, ?_⟩, rfl, by decide⟩
  · intro h; exact absurd rfl h
  · intro h; cases h
  · intro k h; cases h
  · intro k h
    cases k
    · rfl
    · cases h

/-- The Done step of a calibration. -/
theorem test_witness_EveryStepKeepsCalibratorInvariant :
    ∃ s t, CalibratorInv s ∧ step s = .next t ∧ t.st.phase = .idle :=
  ⟨scheduling .sequencer calibrated, _, ⟨fun _ => by decide, fun _ => Config.calMaxCycles_pos, fun _ => by decide, fun _ => by decide,
    fun _ => Config.le_calTimeout 1⟩, rfl, by decide⟩

/-- The wake step of a light sleep with a domain down. -/
theorem test_witness_EveryStepKeepsSleepRegsInvariant :
    ∃ s t, SleepRegsInv s ∧ step s = .next t ∧ t.st.phase = .waking := by
  refine ⟨scheduling .sequencer { lightAsleep with
      clk := { lightAsleep.clk with rtcCounter := 1 }
      slp := { lightAsleep.slp with pdCfg := 0x101, pdRes := 0x101, domainOff := 0x101 } }, _, ⟨?_, ?_, ?_, ?_, ?_, ?_, ?_⟩, rfl, by decide⟩
  · decide
  · intro h; cases h
  · exact fun _ => rfl
  · exact fun _ => rfl
  · intro h; cases h
  · exact Config.defaultPeriod_ne_zero
  · exact fun _ _ => rfl

theorem test_witness_CounterIsMonotonicUntilReset :
    ∃ t, step (scheduling .slowClock State.reset) = .next t ∧ t.clk.rtcCounter = 1 := ⟨_, rfl, by decide⟩

/-- The issue of SET_SLOW_SRC changes the selector; a host write changes `ARG`. -/
theorem test_witness_OnlyTheseStepsWrite :
    (∃ t, step ((withArgs #v[1, 0, 0, 0]).withFetchWord 32 0x05) = .next t ∧ t.clk.slowClkSel ≠ State.reset.clk.slowClkSel) ∧
    (∃ t, step (scheduling .host (hosting [.write 0x28 8 9] State.reset)) = .next t ∧ t.io.arg ≠ State.reset.io.arg) :=
  ⟨⟨_, rfl, by decide⟩, ⟨_, rfl, by decide⟩⟩

theorem test_witness_LightSleepPreservesTheRest :
    (∃ t, step (scheduling .sequencer (inPhase .waking lightAsleep)) = .next t ∧ t.st.phase = .idle) ∧
    (∃ t, step (scheduling .sequencer lightAsleep) = .next t ∧ t.st.phase = .lightSleep) :=
  ⟨⟨_, rfl, by decide⟩, ⟨_, rfl, by decide⟩⟩

theorem test_witness_TimedLightSleepEnds :
    lightAsleep.st.phase = .lightSleep ∧ lightAsleep.slp.wakeOpt.getLsbD 3 = true ∧
    lightAsleep.clk.rtcCounter.toNat < lightAsleep.slp.wakeupTime.toNat := by decide

/-- The run in which the Settle step is taken at once. -/
theorem test_witness_FairSettlingEnds :
    ∃ (σ : Nat → Agent) (x : Nat → State), FairRun σ x ∧ (x 0).st.phase = .settling := by
  refine ⟨fun _ => .settle, fun n => match n with | 0 => inPhase .settling State.reset | _ + 1 => State.reset, ⟨?_, ?_, ?_, ?_⟩, rfl⟩
  · intro n
    cases n <;> rfl
  · intro n h
    have := h (n + 1) (Nat.le_succ n)
    cases this
  · exact fun n _ => ⟨n, Nat.le_refl n, rfl⟩
  · intro n h
    have := h (n + 1) (Nat.le_succ n)
    cases this

/-- The run in which the Done step is taken at once. -/
theorem test_witness_FairCalibrationEnds :
    ∃ (σ : Nat → Agent) (x : Nat → State), FairRun σ x ∧ CalibratorInv (x 0) ∧ (x 0).st.phase = .calibrating := by
  refine ⟨fun _ => .sequencer, fun n => match n with | 0 => calibrated | _ + 1 => calDoneStep calibrated, ⟨?_, ?_, ?_, ?_⟩,
    calibrated_inv, rfl⟩
  · intro n
    cases n <;> rfl
  · intro n h
    have := h (n + 1) (Nat.le_succ n)
    cases this
  · intro n h
    have := h (n + 1) (Nat.le_succ n)
    cases this
  · exact fun n _ => ⟨n, Nat.le_refl n, rfl⟩

end Sys2Proof.Tests
end

section
/-! SUPPORT. The statements of 00_scope.md: a step runs the decoded command (R9, 20_memory.md R43), and in a fair run every settling
delay and every calibration ends (R8). -/

namespace Sys2Proof.Machine

/-! ## The host's `CMD` write (20_memory.md R43) -/

/-- A host that is not halted, with a `CMD` write next, makes that write. -/
theorem turn_host_write_cmd {s : State} {v : Word} {rest : List HostOp} (hh : s.hostHalted = false)
    (hp : s.bench.program = .write 0x00 8 v :: rest) : turn .host s = writeCmd v (popProgram s) := by
  simp [turn, hostTurn, hh, hp, hostAccess, admitted, windowReg, writeReg]

/-- In IDLE, a `CMD` write of a command's word is the issue of that command (20_memory.md R43). -/
theorem writeCmd_idle {s : State} {v : Word} {i : Instr} (hidle : s.st.phase = .idle)
    (hd : decodeValue v = .ok i) : writeCmd v s = exec i s := by
  simp [writeCmd, State.busy, hidle, hd]

/-- An idle block does not halt the host (44_sleep_orchestrator.md R109). -/
theorem hostHalted_of_idle {s : State} (hidle : s.st.phase = .idle) : s.hostHalted = false := by
  simp [State.hostHalted, hidle]

/-- The agent at the head of the schedule moves next. -/
theorem nextAgent_of_schedule {s : State} {a : Agent} {later : List Agent} (hs : s.bench.schedule = a :: later) :
    nextAgent s = a := by
  simp [nextAgent, hs]

/-- Taking an agent from the schedule moves the schedule on. -/
theorem takeAgent_of_schedule {s : State} {a : Agent} {later : List Agent} (hs : s.bench.schedule = a :: later) :
    takeAgent s = { s with bench := { s.bench with schedule := later } } := by
  simp [takeAgent, hs]

/-- Settles O4: the host's turn is its `CMD` write, and in IDLE that write is the command's issue. -/
theorem stepRunsDecodedCommand : Obligations.StepRunsDecodedCommand := by
  intro s v i rest later hs hp hidle hd _
  have hturn : turn .host (takeAgent s) = writeCmd v (popProgram (takeAgent s)) :=
    turn_host_write_cmd (hostHalted_of_idle (by simpa using hidle)) (by simpa using hp)
  have hexec : writeCmd v (popProgram (takeAgent s)) = exec i (popProgram (takeAgent s)) :=
    writeCmd_idle (by simpa using hidle) hd
  rw [step, nextAgent_of_schedule hs, hturn, hexec, takeAgent_of_schedule hs, popProgram]
  simp [hp]

/-! ## Liveness in fair runs (00_scope.md R8) -/

/-- The rule for weak fairness. Where `P` enables agent `a`, every turn from `P` stays in `P` or reaches `Q`, and `a`'s own turn reaches
`Q`, a run that is fair to `a` goes from `P` to `Q`. -/
theorem WeaklyFair.leadsTo {a : Agent} {σ : Nat → Agent} {x : Nat → State} {P Q : State → Prop}
    (hfair : WeaklyFair a σ x) (hrun : RunOf σ x) (hen : ∀ s, P s → enabled a s = true)
    (hkeep : ∀ b s t, P s → turn b s = .next t → P t ∨ Q t) (hdo : ∀ s t, P s → turn a s = .next t → Q t)
    {n : Nat} (hn : P (x n)) : ∃ m, n ≤ m ∧ Q (x m) := by
  by_contra hnever
  push Not at hnever
  have hP : ∀ m, n ≤ m → P (x m) := fun m hm => by
    induction m, hm using Nat.le_induction with
    | base => exact hn
    | succ m hm ih =>
      exact (hkeep _ _ _ ih (hrun m)).resolve_right (hnever (m + 1) (Nat.le_succ_of_le hm))
  obtain ⟨m, hm, hσ⟩ := hfair n fun m hm => hen _ (hP m hm)
  exact hnever (m + 1) (Nat.le_succ_of_le hm) (hdo _ _ (hP m hm) (hσ ▸ hrun m))

/-- Settles O59: Settle is enabled throughout SETTLING, and its step leaves it. -/
theorem fairSettlingEnds : Obligations.FairSettlingEnds := by
  intro σ x hfair h0
  obtain ⟨n, -, hn⟩ := hfair.settle.leadsTo (P := fun s => s.st.phase = .settling) (Q := fun s => s.st.phase ≠ .settling)
    hfair.run (fun s hs => by simp [enabled, settleEnabled, hs]) (fun _ _ t _ _ => em (t.st.phase = .settling))
    (fun s t hs ht => by
      simp only [turn, stepIf, settleEnabled, hs, beq_self_eq_true, if_true] at ht
      cases ht
      simp [settleStep]) h0
  exact ⟨n, hn⟩

/-! ## The end of a calibration (42_frequency_calibrator.md R79 to R82) -/

/-- A turn that leaves a calibration in progress lets the calibrator be, or is a tick of one of its two clocks while it counts. -/
theorem turn_calibrating_cases {a : Agent} {s t : State} (h : turn a s = .next t) (hs : s.st.phase = .calibrating)
    (ht : t.st.phase = .calibrating) :
    t.cal = s.cal ∨ (counting s = true ∧ (t = refClockStep s ∨ t = targetClockStep s)) := by
  cases turn_effect h with
  | refClock _ hen => exact .inr ⟨hen, .inl rfl⟩
  | targetClock _ hen =>
    simp only [targetClockEnabled, Bool.and_eq_true] at hen
    exact .inr ⟨hen.1, .inr rfl⟩
  | command _ hi => simp [hs] at hi
  | deepWake => cases ht
  | _ => exact .inl rfl

/-- The calibration is over but for the sequencer's step: Done or Timeout is enabled (42_frequency_calibrator.md R81, R82). -/
def CalDue (s : State) : Prop :=
  calDoneEnabled s = true ∨ calTimeoutEnabled s = true

/-- How many reference ticks the budget still has (42_frequency_calibrator.md R82). -/
def calLeft (s : State) : Nat :=
  (Config.calTimeout s.cal.n).toNat - s.cal.acc.toNat

/-- Counting, in natural numbers: calibrating, short of the count and short of the budget. -/
theorem counting_iff {s : State} : counting s = true ↔ s.st.phase = .calibrating ∧
    s.cal.tcnt.toNat < s.cal.n.toNat ∧ s.cal.acc.toNat < (Config.calTimeout s.cal.n).toNat := by
  simp [counting, BitVec.lt_def, and_assoc]

/-- Due, in natural numbers: calibrating, and at the count, or short of it with the budget used up. -/
theorem calDue_iff {s : State} : CalDue s ↔ s.st.phase = .calibrating ∧
    (s.cal.tcnt.toNat = s.cal.n.toNat ∨
      s.cal.tcnt.toNat < s.cal.n.toNat ∧ s.cal.acc.toNat = (Config.calTimeout s.cal.n).toNat) := by
  simp [CalDue, calDoneEnabled, calTimeoutEnabled, BitVec.lt_def, ← BitVec.toNat_inj, and_assoc, and_or_left]

/-- A calibration past neither its count nor its budget counts or is due. -/
theorem counting_or_calDue {s : State} (hs : s.st.phase = .calibrating) (hcnt : s.cal.tcnt.toNat ≤ s.cal.n.toNat)
    (hacc : s.cal.acc.toNat ≤ (Config.calTimeout s.cal.n).toNat) : counting s = true ∨ CalDue s := by
  simp only [counting_iff, calDue_iff, hs, true_and]
  omega

/-- A reference tick while counting adds one to the accumulator, without wrapping (42_frequency_calibrator.md R79). -/
theorem refClockStep_acc_toNat {s : State} (hs : counting s = true) :
    (refClockStep s).cal.acc.toNat = s.cal.acc.toNat + 1 := by
  obtain ⟨-, -, hacc⟩ := counting_iff.mp hs
  rw [refClockStep_cal]
  bv_omega

/-- A target tick while counting adds one to the count, without wrapping (42_frequency_calibrator.md R80). -/
theorem targetClockStep_tcnt_toNat {s : State} (hs : counting s = true) :
    (targetClockStep s).cal.tcnt.toNat = s.cal.tcnt.toNat + 1 := by
  obtain ⟨-, htcnt, -⟩ := counting_iff.mp hs
  rw [targetClockStep_cal]
  bv_omega

/-- After a reference tick the calibration counts on or is due, with less of the budget left. -/
theorem refClockStep_progress {s : State} (hs : counting s = true) :
    (counting (refClockStep s) = true ∨ CalDue (refClockStep s)) ∧ calLeft (refClockStep s) < calLeft s := by
  obtain ⟨hph, htcnt, hacc⟩ := counting_iff.mp hs
  have hadd := refClockStep_acc_toNat hs
  refine ⟨counting_or_calDue hph htcnt.le (hadd ▸ hacc), ?_⟩
  have hn : (refClockStep s).cal.n = s.cal.n := rfl
  simp only [calLeft, hn, hadd]
  omega

/-- After a target tick the calibration counts on or is due. -/
theorem targetClockStep_counting_or_calDue {s : State} (hs : counting s = true) :
    counting (targetClockStep s) = true ∨ CalDue (targetClockStep s) := by
  obtain ⟨hph, htcnt, hacc⟩ := counting_iff.mp hs
  exact counting_or_calDue hph ((targetClockStep_tcnt_toNat hs).symm ▸ htcnt) hacc.le

/-- Any turn while counting ends the calibration, makes its end due, or counts on with no more of the budget left. -/
theorem counting_turn {a : Agent} {s t : State} (h : turn a s = .next t) (hs : counting s = true) :
    t.st.phase ≠ .calibrating ∨ CalDue t ∨ counting t = true ∧ calLeft t ≤ calLeft s := by
  by_cases ht : t.st.phase = .calibrating
  · right
    obtain ⟨hph, htcnt, hacc⟩ := counting_iff.mp hs
    rcases turn_calibrating_cases h hph ht with hcal | ⟨-, rfl | rfl⟩
    · exact .inr ⟨counting_iff.mpr ⟨ht, by simpa [hcal] using ⟨htcnt, hacc⟩⟩, by simp [calLeft, hcal]⟩
    · obtain ⟨hon, hlt⟩ := refClockStep_progress hs
      exact hon.symm.imp_right fun hc => ⟨hc, hlt.le⟩
    · exact (targetClockStep_counting_or_calDue hs).symm.imp_right fun hc => ⟨hc, le_rfl⟩
  · exact .inl ht

/-- A calibration that is due does not count. -/
theorem CalDue.not_counting {s : State} (hs : CalDue s) : counting s = false := by
  rw [calDue_iff] at hs
  rw [Bool.eq_false_iff, ne_eq, counting_iff]
  omega

/-- The end of a calibration stays due until a turn takes it. -/
theorem CalDue.turn_keeps_or_ends {a : Agent} {s t : State} (h : turn a s = .next t) (hs : CalDue s) :
    CalDue t ∨ t.st.phase ≠ .calibrating := by
  by_cases ht : t.st.phase = .calibrating
  · left
    obtain ⟨hph, hwhy⟩ := calDue_iff.mp hs
    rcases turn_calibrating_cases h hph ht with hcal | ⟨hc, -⟩
    · exact calDue_iff.mpr ⟨ht, by simpa [hcal] using hwhy⟩
    · simp [hs.not_counting] at hc
  · exact .inr ht

/-- The sequencer's step is enabled where the end of a calibration is due. -/
theorem CalDue.sequencer_enabled {s : State} (hs : CalDue s) : enabled .sequencer s = true := by
  rcases hs with hd | hd <;> simp only [enabled, sequencerStep?, hd, if_true]
  · rfl
  · split <;> rfl

/-- The sequencer's turn ends a calibration that is due (42_frequency_calibrator.md R81, R82). -/
theorem CalDue.turn_sequencer {s t : State} (h : turn .sequencer s = .next t) (hs : CalDue s) :
    t.st.phase ≠ .calibrating := by
  have hnext : (sequencerStep? s).getD s = t := by cases h; rfl
  rcases hs with hd | hd <;> simp only [sequencerStep?, hd, if_true] at hnext
  · simp [← hnext, calDoneStep]
  · split at hnext <;> simp [← hnext, calDoneStep, calTimeoutStep]

/-- In a fair run a calibration whose end is due ends. -/
theorem FairRun.calDue_ends {σ : Nat → Agent} {x : Nat → State} (hfair : FairRun σ x) {n : Nat} (hn : CalDue (x n)) :
    ∃ m, (x m).st.phase ≠ .calibrating := by
  obtain ⟨m, -, hm⟩ := hfair.sequencer.leadsTo (Q := fun s => s.st.phase ≠ .calibrating) hfair.run
    (fun _ hs => hs.sequencer_enabled) (fun _ _ _ hs h => hs.turn_keeps_or_ends h) (fun _ _ hs h => hs.turn_sequencer h) hn
  exact ⟨m, hm⟩

/-- In a fair run a calibration that counts ends, by induction on what its budget has left: each reference tick uses some of it. -/
theorem FairRun.counting_ends {σ : Nat → Agent} {x : Nat → State} (hfair : FairRun σ x) {n : Nat}
    (hn : counting (x n) = true) : ∃ m, (x m).st.phase ≠ .calibrating := by
  induction hk : calLeft (x n) using Nat.strong_induction_on generalizing n with
  | _ k ih =>
    obtain ⟨m, -, hm⟩ := hfair.ref_clock.leadsTo
      (P := fun s => counting s = true ∧ calLeft s = k)
      (Q := fun s => s.st.phase ≠ .calibrating ∨ CalDue s ∨ counting s = true ∧ calLeft s < k) hfair.run
      (fun s hs => hs.1)
      (fun _ s t ⟨hs, hleft⟩ h => by
        rcases counting_turn h hs with hend | hdue | ⟨hc, hle⟩
        · exact .inr (.inl hend)
        · exact .inr (.inr (.inl hdue))
        · rcases (hleft ▸ hle).lt_or_eq with hlt | heq
          · exact .inr (.inr (.inr ⟨hc, hlt⟩))
          · exact .inl ⟨hc, heq⟩)
      (fun s t ⟨hs, hleft⟩ h => by
        simp only [turn, stepIf, refClockEnabled, hs, if_true] at h
        cases h
        obtain ⟨hon, hlt⟩ := refClockStep_progress hs
        exact .inr (hon.symm.imp_right fun hc => ⟨hc, hleft ▸ hlt⟩))
      ⟨hn, hk⟩
    rcases hm with hend | hdue | ⟨hc, hlt⟩
    · exact ⟨m, hend⟩
    · exact hfair.calDue_ends hdue
    · exact ih _ hlt hc rfl

/-- Settles O60: the reference clock alone uses the budget up, and then, or at the full count before, the sequencer ends the
calibration. -/
theorem fairCalibrationEnds : Obligations.FairCalibrationEnds := by
  intro σ x hfair hinv h0
  rcases counting_or_calDue h0 (hinv.tcnt_le h0) (hinv.acc_le h0) with hc | hdue
  · exact hfair.counting_ends hc
  · exact hfair.calDue_ends hdue

end Sys2Proof.Machine
end

section
/-! SUPPORT. The statements of 10_state.md: the registers of the window and of the reset, the invariants every step keeps, which steps
may write, and what survives a light sleep. -/

namespace Sys2Proof.Machine

/-! ## What a step does, with the bench apart -/

/-- Inversion of one step: one turn, from a state in which only the bench has moved on, and not the host's program. -/
theorem step_turn {s t : State} (h : step s = .next t) :
    ∃ b : Bench, b.program = s.bench.program ∧ TurnEffect (nextAgent s) { s with bench := b } t := by
  have ht : takeAgent s = { s with bench := (takeAgent s).bench } := by
    unfold takeAgent
    split <;> rfl
  exact ⟨(takeAgent s).bench, takeAgent_program s, ht ▸ step_effect h⟩

/-! ## A step of the block is enabled in its own phase alone -/

section
variable {s : State}

@[simp] theorem counting_of_phase_ne (h : s.st.phase ≠ .calibrating) : counting s = false := by
  simp [counting, h]

@[simp] theorem refClockEnabled_of_phase_ne (h : s.st.phase ≠ .calibrating) : refClockEnabled s = false :=
  counting_of_phase_ne h

@[simp] theorem targetClockEnabled_of_phase_ne (h : s.st.phase ≠ .calibrating) : targetClockEnabled s = false := by
  simp [targetClockEnabled, h]

@[simp] theorem calDoneEnabled_of_phase_ne (h : s.st.phase ≠ .calibrating) : calDoneEnabled s = false := by
  simp [calDoneEnabled, h]

@[simp] theorem calTimeoutEnabled_of_phase_ne (h : s.st.phase ≠ .calibrating) : calTimeoutEnabled s = false := by
  simp [calTimeoutEnabled, h]

@[simp] theorem settleEnabled_of_phase_ne (h : s.st.phase ≠ .settling) : settleEnabled s = false := by
  simp [settleEnabled, h]

@[simp] theorem pllReadyEnabled_of_phase_ne (h : s.st.phase ≠ .pllWait) : pllReadyEnabled s = false := by
  simp [pllReadyEnabled, h]

@[simp] theorem lightWakeEnabled_of_phase_ne (h : s.st.phase ≠ .lightSleep) : lightWakeEnabled s = false := by
  simp [lightWakeEnabled, h]

@[simp] theorem restoreEnabled_of_phase_ne (h : s.st.phase ≠ .waking) : restoreEnabled s = false := by
  simp [restoreEnabled, h]

@[simp] theorem deepWakeEnabled_of_phase_ne (h : s.st.phase ≠ .deepSleep) : deepWakeEnabled s = false := by
  simp [deepWakeEnabled, h]

theorem phase_of_lightWakeEnabled (h : lightWakeEnabled s = true) : s.st.phase = .lightSleep := by
  by_contra hp
  simp [hp] at h

theorem phase_of_restoreEnabled (h : restoreEnabled s = true) : s.st.phase = .waking := by
  by_contra hp
  simp [hp] at h

theorem phase_of_deepWakeEnabled (h : deepWakeEnabled s = true) : s.st.phase = .deepSleep := by
  by_contra hp
  simp [hp] at h

/-- The PLL-ready step is enabled in PLL_WAIT, once the pending PLL has locked (43_cpu_frequency_switcher.md R90). -/
theorem pllReadyEnabled_iff : pllReadyEnabled s = true ↔ s.st.phase = .pllWait ∧
    ∃ k, s.cpu.pendingCfg.src.pll? = some k ∧ (s.cpu.pllOf k).locked = true := by
  cases hk : s.cpu.pendingCfg.src.pll? <;> simp [pllReadyEnabled, hk]

/-- The CPU is halted in the three phases of a sleep (44_sleep_orchestrator.md R109). -/
theorem hostHalted_iff : s.hostHalted = true ↔
    s.st.phase = .lightSleep ∨ s.st.phase = .waking ∨ s.st.phase = .deepSleep := by
  simp [State.hostHalted, or_assoc]

theorem hostHalted_eq_false_iff : s.hostHalted = false ↔
    s.st.phase ≠ .lightSleep ∧ s.st.phase ≠ .waking ∧ s.st.phase ≠ .deepSleep := by
  simp [State.hostHalted, and_assoc]

/-- The holds that are no sleep end with the CPU running. -/
theorem hostHalted_of_hold_ends (h : settleEnabled s = true ∨ calDoneEnabled s = true ∨ calTimeoutEnabled s = true ∨
    pllReadyEnabled s = true) : s.hostHalted = false := by
  refine hostHalted_eq_false_iff.mpr ⟨fun hp => ?_, fun hp => ?_, fun hp => ?_⟩ <;> simp [hp] at h

end

/-! ## The clocks where no command is issued -/

/-- Writing one PLL's registers leaves the other's (10_state.md R25). -/
theorem CpuRegs.pllOf_setPll (c : CpuRegs) (k j : Pll) (r : PllRegs) :
    (c.setPll k r).pllOf j = if j = k then r else c.pllOf j := by
  cases k <;> cases j <;> rfl

@[simp] theorem pllLockStep_activeCfg (k : Pll) (s : State) : (pllLockStep k s).cpu.activeCfg = s.cpu.activeCfg := by
  cases k <;> rfl
@[simp] theorem pllLockStep_muxSel (k : Pll) (s : State) : (pllLockStep k s).cpu.muxSel = s.cpu.muxSel := by
  cases k <;> rfl
@[simp] theorem pllLockStep_div (k : Pll) (s : State) : (pllLockStep k s).cpu.div = s.cpu.div := by
  cases k <;> rfl
@[simp] theorem pllLockStep_pendingCfg (k : Pll) (s : State) : (pllLockStep k s).cpu.pendingCfg = s.cpu.pendingCfg := by
  cases k <;> rfl

/-- A lock keeps every PLL's enable and frequency, and raises one lock (43_cpu_frequency_switcher.md R89). -/
@[simp] theorem pllLockStep_pllOf (k j : Pll) (s : State) : (pllLockStep k s).cpu.pllOf j =
    { s.cpu.pllOf j with locked := (s.cpu.pllOf j).locked || decide (j = k) } := by
  by_cases hj : j = k <;> simp [pllLockStep, CpuRegs.pllOf_setPll, hj]

/-- A tick of the RTC counter adds one, without wrapping (41_clock_source.md R69). -/
theorem slowClock_toNat_succ {s : State} (h : slowClockEnabled s = true) :
    (s.clk.rtcCounter + 1).toNat = s.clk.rtcCounter.toNat + 1 := by
  simp only [slowClockEnabled, decide_eq_true_eq] at h
  bv_omega

/-- `t` has the clocks of `s`: the selection and the CPU clock are the same, no lock has fallen, and the counter has ticked at most
once. -/
structure ClocksHeld (s t : State) : Prop where
  slowClkSel : t.clk.slowClkSel = s.clk.slowClkSel
  xtal : t.clk.xtal = s.clk.xtal
  counter : t.clk.rtcCounter = s.clk.rtcCounter ∨ (slowClockEnabled s = true ∧ t.clk.rtcCounter = s.clk.rtcCounter + 1)
  activeCfg : t.cpu.activeCfg = s.cpu.activeCfg
  muxSel : t.cpu.muxSel = s.cpu.muxSel
  div : t.cpu.div = s.cpu.div
  pendingCfg : t.cpu.pendingCfg = s.cpu.pendingCfg
  plls : ∀ k, (t.cpu.pllOf k).en = (s.cpu.pllOf k).en ∧ (t.cpu.pllOf k).freq = (s.cpu.pllOf k).freq ∧
    ((s.cpu.pllOf k).locked = true → (t.cpu.pllOf k).locked = true)

theorem ClocksHeld.of_eq {s t : State} (hclk : t.clk = s.clk) (hcpu : t.cpu = s.cpu) : ClocksHeld s t := by
  constructor <;> simp [hclk, hcpu]

/-- Only a command, the ready step of a warm-up and the reset of a deep-sleep wake touch more of the clocks than the counter and a
lock. -/
theorem TurnEffect.clocksHeld {a : Agent} {s t : State} (h : TurnEffect a s t)
    (hs : s.st.phase ≠ .idle ∧ s.st.phase ≠ .pllWait ∧ s.st.phase ≠ .deepSleep) : ClocksHeld s t := by
  obtain ⟨hidle, hwait, hdeep⟩ := hs
  cases h with
  | command _ hi => exact absurd hi hidle
  | pllReady _ hen => simp [hwait] at hen
  | deepWake _ hen => simp [hdeep] at hen
  | slowClock _ hen => exact ⟨rfl, rfl, .inr ⟨hen, rfl⟩, rfl, rfl, rfl, rfl, fun _ => ⟨rfl, rfl, id⟩⟩
  | pllLock k => constructor <;> simp +contextual
  | _ => exact .of_eq rfl rfl

/-! ## The faulted state (60_exceptions.md R116) -/

/-- A turn in FAULTED changes no `STATUS` field, no result, no calibrator and no sleep register, and clears no mark. -/
theorem TurnEffect.of_faulted {a : Agent} {s t : State} (h : TurnEffect a s t) (hs : s.st.phase = .faulted) :
    t.st = s.st ∧ t.io.res = s.io.res ∧ t.cal = s.cal ∧ t.slp = s.slp ∧ t.ghost.resW = s.ghost.resW ∧
    (s.ghost.unwrittenOperand = true → t.ghost.unwrittenOperand = true) ∧
    (s.ghost.unwrittenResult = true → t.ghost.unwrittenResult = true) := by
  cases h with
  | unwrittenResult =>
    have hst : s.st = { s.st with phase := .faulted } := by rw [← hs]
    exact ⟨hst.symm, rfl, rfl, rfl, rfl, id, fun _ => rfl⟩
  | cmdFault _ _ _ hf => exact absurd hs hf
  | command _ hi => simp [hs] at hi
  | refClock _ hen | targetClock _ hen | settle _ hen | calDone _ hen | calTimeout _ hen | pllReady _ hen | lightWake _ hen
  | restore _ hen | deepWake _ hen => simp [hs] at hen
  | _ => exact ⟨rfl, rfl, rfl, rfl, rfl, id, id⟩

/-- Settles O18: no agent's turn leaves FAULTED, and none there touches more of the clocks than the counter and a lock. -/
theorem faultedStateIsNeverLeft : Obligations.FaultedStateIsNeverLeft := by
  intro s t h hs
  obtain ⟨b, -, ht⟩ := step_turn h
  obtain ⟨hst, hres, hcal, hslp, hresW, hop, hrd⟩ := ht.of_faulted hs
  have hc := ht.clocksHeld (by simp [hs])
  exact ⟨hst, hres, hc.slowClkSel, hc.xtal, hc.activeCfg, hc.muxSel, hc.div, hc.pendingCfg, hc.plls, hcal, hslp, hresW, hop, hrd,
    hc.counter.imp_right And.right⟩

/-! ## FAULT, CAUSE, the marks and PHASE -/

/-- What a state records of its faults: `FAULT`, `CAUSE` and the two marks. -/
def faultRecord (s : State) : Bool × BitVec 8 × Bool × Bool :=
  (s.st.fault, s.st.cause, s.ghost.unwrittenOperand, s.ghost.unwrittenResult)

section
variable {s t : State}

/-- A step that keeps the record of faults, and neither enters nor leaves FAULTED, keeps the invariant. -/
theorem FaultInv.of_same_record (hs : FaultInv s) (hrec : faultRecord t = faultRecord s)
    (hph : t.st.phase = .faulted ↔ s.st.phase = .faulted) : FaultInv t := by
  simp only [faultRecord, Prod.mk.injEq] at hrec
  obtain ⟨hf, hc, ho, hr⟩ := hrec
  obtain ⟨hzero, hcode, hstop, hmark, hwhy⟩ := hs
  rw [← hph] at hstop hmark hwhy
  rw [← hf] at hzero hcode hstop hwhy
  rw [← hc] at hzero hcode
  rw [← ho, ← hr] at hmark hwhy
  exact ⟨hzero, hcode, hstop, hmark, hwhy⟩

theorem faultInv_reset : FaultInv State.reset := by
  constructor <;> simp [State.reset]

/-- A fault keeps the first cause (10_state.md R16). -/
theorem FaultInv.raiseFault (hs : FaultInv s) (c : FaultCode) : FaultInv (raiseFault c s) where
  cause_zero h := by cases h
  cause_code _ := by
    cases hf : s.st.fault with
    | true => simpa [hf] using hs.cause_code hf
    | false => exact ⟨c, by simp [hf]⟩
  fault_stops _ := rfl
  mark_stops _ := rfl
  stopped_why _ := .inl rfl

/-- A model fault sets its mark and leaves `FAULT` and `CAUSE` as they were (60_exceptions.md R113). -/
theorem FaultInv.unwrittenOperandFault (hs : FaultInv s) : FaultInv (unwrittenOperandFault s) :=
  ⟨hs.cause_zero, hs.cause_code, fun _ => rfl, fun _ => rfl, fun _ => .inr (.inl rfl)⟩

theorem FaultInv.unwrittenResultFault (hs : FaultInv s) : FaultInv (unwrittenResultFault s) :=
  ⟨hs.cause_zero, hs.cause_code, fun _ => rfl, fun _ => rfl, fun _ => .inr (.inr rfl)⟩

/-- A command takes a fault, or stays clear of FAULTED and of the record of faults. -/
theorem FaultInv.effect (hs : FaultInv s) (hidle : s.st.phase = .idle) (h : Effect s t) : FaultInv t := by
  cases h with
  | unwritten => exact hs.unwrittenOperandFault
  | fault c => exact hs.raiseFault c
  | _ => exact hs.of_same_record (by simp [faultRecord]) (by simp [hidle])

/-- So does every other turn; the reset of a deep-sleep wake clears the record. -/
theorem FaultInv.turn {a : Agent} (hs : FaultInv s) (h : TurnEffect a s t) : FaultInv t := by
  have hpop : FaultInv (popProgram s) := hs.of_same_record rfl .rfl
  cases h with
  | unwrittenResult => exact hpop.unwrittenResultFault
  | cmdFault c => exact hpop.raiseFault c
  | command _ hi _ _ hx => exact hpop.effect hi (exec_effect hx)
  | deepWake => exact faultInv_reset.of_same_record rfl .rfl
  | settle _ hen | calDone _ hen | calTimeout _ hen | pllReady _ hen | lightWake _ hen | restore _ hen =>
    refine hs.of_same_record rfl (iff_of_false nofun fun hf => ?_)
    simp [hf] at hen
  | _ => exact hs.of_same_record rfl .rfl

end

/-- Settles O50: `FAULT` and the marks are set only on the way into FAULTED, and FAULTED is entered no other way. -/
theorem everyStepKeepsFaultInvariant : Obligations.EveryStepKeepsFaultInvariant := by
  intro s t hs h
  obtain ⟨b, -, ht⟩ := step_turn h
  exact (hs.of_same_record rfl .rfl : FaultInv { s with bench := b }).turn ht

/-! ## SLEEP_STATE and PHASE -/

/-- The power states that go with a phase (10_state.md R19). -/
def SleepState.fits (x : SleepState) (p : Phase) : Prop :=
  match p with
  | .lightSleep => x = .lightSleeping
  | .waking => x = .waking
  | .deepSleep => x = .deepSleepPending
  | _ => x = .awake ∨ x = .preparing

section
variable {s t : State}

theorem sleepStateInv_iff : SleepStateInv s ↔ s.st.sleepState.fits s.st.phase := by
  constructor
  · rintro ⟨hl, hw, hd⟩
    cases hp : s.st.phase <;> cases hx : s.st.sleepState <;> simp [SleepState.fits, hp, hx] at hl hw hd ⊢
  · intro h
    cases hp : s.st.phase <;> cases hx : s.st.sleepState <;> simp [SleepState.fits, hp, hx] at h <;>
      constructor <;> simp [hp, hx]

theorem SleepStateInv.of_same (hs : SleepStateInv s) (hx : t.st.sleepState = s.st.sleepState)
    (hp : t.st.phase = s.st.phase) : SleepStateInv t := by
  rw [sleepStateInv_iff] at hs ⊢
  rwa [hx, hp]

/-- Outside a sleep, a power state fits that is none of the sleeps' own. -/
theorem SleepState.fits_of_running {x : SleepState} (hh : s.hostHalted = false) :
    x.fits s.st.phase ↔ x = .awake ∨ x = .preparing := by
  obtain ⟨hl, hw, hd⟩ := hostHalted_eq_false_iff.mp hh
  cases hp : s.st.phase <;> simp [hp, SleepState.fits] at hl hw hd ⊢

/-- A step outside the sleeps that keeps `SLEEP_STATE` keeps the invariant. -/
theorem SleepStateInv.of_running (hs : SleepStateInv s) (hh : s.hostHalted = false) (ht : t.hostHalted = false)
    (hx : t.st.sleepState = s.st.sleepState) : SleepStateInv t := by
  rw [sleepStateInv_iff, SleepState.fits_of_running] at hs ⊢
  · rwa [hx]
  · assumption
  · assumption

theorem sleepStateInv_reset : SleepStateInv State.reset :=
  sleepStateInv_iff.mpr (.inl rfl)

/-- PREPARE_SLEEP and the two sleep entries move `SLEEP_STATE` with `PHASE`; no other command touches it. -/
theorem SleepStateInv.effect (hs : SleepStateInv s) (hidle : s.st.phase = .idle) (h : Effect s t) : SleepStateInv t := by
  cases h with
  | prepare => exact sleepStateInv_iff.mpr (.inr rfl)
  | reject => exact sleepStateInv_iff.mpr (.inl rfl)
  | lightSleep => exact sleepStateInv_iff.mpr rfl
  | deepSleep => exact sleepStateInv_iff.mpr rfl
  | _ => exact hs.of_running (hostHalted_of_idle hidle) (by simp [State.hostHalted]) (by simp)

/-- So do the steps that end a sleep, and no other turn enters or leaves one. -/
theorem SleepStateInv.turn {a : Agent} (hs : SleepStateInv s) (h : TurnEffect a s t) : SleepStateInv t := by
  cases h with
  | lightWake => exact sleepStateInv_iff.mpr rfl
  | restore => exact sleepStateInv_iff.mpr (.inl rfl)
  | deepWake => exact sleepStateInv_reset.of_same rfl rfl
  | unwrittenResult _ hh | cmdFault _ _ hh => exact hs.of_running hh rfl rfl
  | command _ hi _ _ hx =>
    exact (hs.of_same rfl rfl : SleepStateInv (popProgram s)).effect hi (exec_effect hx)
  | settle _ hen | calDone _ hen | calTimeout _ hen | pllReady _ hen =>
    exact hs.of_running (hostHalted_of_hold_ends (by simp [hen])) rfl rfl
  | _ => exact hs.of_same rfl rfl

end

/-- Settles O51: outside the sleeps `SLEEP_STATE` is AWAKE or PREPARING, and each step into, within or out of a sleep sets both. -/
theorem everyStepKeepsSleepStateInvariant : Obligations.EveryStepKeepsSleepStateInvariant := by
  intro s t hs h
  obtain ⟨b, -, ht⟩ := step_turn h
  exact (hs.of_same rfl rfl : SleepStateInv { s with bench := b }).turn ht

/-! ## The CPU clock -/

/-- The crystal at divider 1 is a valid configuration (43_cpu_frequency_switcher.md R86, R92). -/
theorem crystalCfg_valid (x : Crystal) : (crystalCfg x).valid = true := by
  have := Config.cpuDivMax_pos
  simp [CpuCfg.valid, crystalCfg]
  omega

section
variable {s t : State}

theorem CpuClockInv.of_same (hs : CpuClockInv s) (hx : t.clk.xtal = s.clk.xtal) (hc : t.cpu = s.cpu)
    (hp : t.st.phase = s.st.phase) : CpuClockInv t := by
  obtain ⟨hcrystal, hvalid, hsteady, hstopped, hwarming, hpending, hsource, hlocked⟩ := hs
  rw [← hc] at hvalid hsteady hstopped hwarming hpending hsource hlocked
  rw [← hp] at hsteady hstopped hwarming hpending
  exact ⟨hx.trans hcrystal, hvalid, hsteady, hstopped, hwarming, hpending, hsource, hlocked⟩

/-- A fault stops the CPU clock as it is: on the record, or on the crystal if a warm-up was under way. -/
theorem CpuClockInv.of_fault (hs : CpuClockInv s) (hx : t.clk.xtal = s.clk.xtal) (hc : t.cpu = s.cpu)
    (hp : t.st.phase = .faulted) : CpuClockInv t where
  crystal := hx.trans hs.crystal
  active_valid := hc ▸ hs.active_valid
  steady _ hf := absurd hp hf
  stopped _ := by
    rw [hc]
    by_cases hw : s.st.phase = .pllWait
    · exact .inr (hs.warming hw)
    · by_cases hf : s.st.phase = .faulted
      · exact hs.stopped hf
      · exact .inl (hs.steady hw hf)
  warming hw := by simp [hp] at hw
  pending hw := by simp [hp] at hw
  source_stable := hc ▸ hs.source_stable
  locked_enabled := hc ▸ hs.locked_enabled

/-- A step between two steady phases that leaves the CPU clock alone keeps the invariant. -/
theorem CpuClockInv.of_steady (hs : CpuClockInv s) (hx : t.clk.xtal = s.clk.xtal) (hc : t.cpu = s.cpu)
    (hp : s.st.phase ≠ .pllWait ∧ s.st.phase ≠ .faulted) (hq : t.st.phase ≠ .pllWait ∧ t.st.phase ≠ .faulted) :
    CpuClockInv t where
  crystal := hx.trans hs.crystal
  active_valid := hc ▸ hs.active_valid
  steady _ _ := hc ▸ hs.steady hp.1 hp.2
  stopped hf := absurd hf hq.2
  warming hw := absurd hw hq.1
  pending hw := absurd hw hq.1
  source_stable := hc ▸ hs.source_stable
  locked_enabled := hc ▸ hs.locked_enabled

/-- A switch to a valid configuration whose PLL, if it has one, is locked, keeps the invariant. -/
theorem CpuClockInv.applyCfg (hs : CpuClockInv s) {cfg : CpuCfg} (hv : cfg.valid = true)
    (hl : ∀ k, cfg.src.pll? = some k → (s.cpu.pllOf k).locked = true) :
    CpuClockInv (completeNone (applyCfg cfg s)) where
  crystal := hs.crystal
  active_valid := hv
  steady _ _ := ⟨rfl, rfl⟩
  stopped := nofun
  warming := nofun
  pending := nofun
  source_stable k hk := ⟨hs.locked_enabled k (hl k hk), hl k hk⟩
  locked_enabled := hs.locked_enabled

@[simp] theorem startPll_activeCfg (k : Pll) (cfg : CpuCfg) (s : State) :
    (startPll k cfg s).cpu.activeCfg = s.cpu.activeCfg := by
  cases k <;> rfl

/-- A warm-up reprograms one PLL and leaves the other (43_cpu_frequency_switcher.md R88). -/
@[simp] theorem startPll_pllOf (k j : Pll) (cfg : CpuCfg) (s : State) : (startPll k cfg s).cpu.pllOf j =
    if j = k then { en := true, freq := cfg.srcMhz, locked := false } else s.cpu.pllOf j := by
  rw [← CpuRegs.pllOf_setPll]
  cases j <;> rfl

/-- The start of a warm-up puts the CPU on the crystal, and enables the pending PLL with its lock down
(43_cpu_frequency_switcher.md R88). -/
theorem CpuClockInv.startPll (hs : CpuClockInv s) {k : Pll} {cfg : CpuCfg} (hv : cfg.valid = true)
    (hk : cfg.src.pll? = some k) : CpuClockInv (enterPhase .pllWait (startPll k cfg s)) where
  crystal := hs.crystal
  active_valid := by simpa using hs.active_valid
  steady hw := absurd rfl hw
  stopped := nofun
  warming _ := ⟨rfl, rfl⟩
  pending _ := ⟨hv, k, hk, by simp⟩
  source_stable := nofun
  locked_enabled j := by
    by_cases hj : j = k
    · simp [hj]
    · simpa [hj] using hs.locked_enabled j

/-- A lock rises only on an enabled PLL (43_cpu_frequency_switcher.md R89). -/
theorem CpuClockInv.pllLock (hs : CpuClockInv s) {k : Pll} (hen : pllLockEnabled k s = true) :
    CpuClockInv (pllLockStep k s) where
  crystal := hs.crystal
  active_valid := by simpa using hs.active_valid
  steady := by simpa using hs.steady
  stopped := by simpa using hs.stopped
  warming := by simpa using hs.warming
  pending := by simpa using hs.pending
  source_stable j hj := by
    obtain ⟨he, hl⟩ := hs.source_stable j (by simpa using hj)
    simp [he, hl]
  locked_enabled j hj := by
    simp only [pllLockStep_pllOf, Bool.or_eq_true, decide_eq_true_eq] at hj ⊢
    rcases hj with hl | rfl
    · exact hs.locked_enabled j hl
    · simp only [pllLockEnabled, Bool.and_eq_true] at hen
      exact hen.1

/-- A block on the crystal with both PLLs off and nothing in progress, as a reset leaves it (10_state.md R37), meets the invariant. -/
theorem CpuClockInv.of_crystal (hx : t.clk.xtal = Config.xtal) (hp : t.st.phase = .idle)
    (ha : t.cpu.activeCfg = crystalCfg Config.xtal) (hm : t.cpu.muxSel = .xtal) (hd : t.cpu.div = 1)
    (hoff : ∀ k, (t.cpu.pllOf k).locked = false) : CpuClockInv t where
  crystal := hx
  active_valid := ha ▸ crystalCfg_valid _
  steady _ _ := by simp [ha, hm, hd, crystalCfg]
  stopped h := by simp [hp] at h
  warming h := by simp [hp] at h
  pending h := by simp [hp] at h
  source_stable k h := by simp [hm, CpuSrc.pll?] at h
  locked_enabled k h := by simp [hoff k] at h

theorem cpuClockInv_reset : CpuClockInv State.reset :=
  .of_crystal rfl rfl rfl rfl rfl (fun k => by cases k <;> rfl)

theorem cpuClockInv_wakeReset (s : State) : CpuClockInv (wakeReset s) :=
  .of_crystal rfl rfl rfl rfl rfl (fun k => by cases k <;> rfl)

/-- SET_CPU_CFG and SWITCH_TO_XTAL switch or start a warm-up; every other command leaves the CPU clock alone. -/
theorem CpuClockInv.effect (hs : CpuClockInv s) (hidle : s.st.phase = .idle) (h : Effect s t) : CpuClockInv t := by
  cases h with
  | unwritten => exact hs.of_fault rfl rfl rfl
  | fault => exact hs.of_fault rfl rfl rfl
  | apply cfg _ hv hp => exact hs.applyCfg hv (fun k hk => by simp [hp] at hk)
  | warmUp k cfg _ hv hp => exact hs.startPll hv hp
  | crystal => exact hs.applyCfg (crystalCfg_valid _) nofun
  | _ => exact hs.of_steady (by simp) (by simp) (by simp [hidle]) (by simp)

/-- So do the ready step, a lock and the reset of a deep-sleep wake; no other turn touches the CPU clock. -/
theorem CpuClockInv.turn {a : Agent} (hs : CpuClockInv s) (h : TurnEffect a s t) : CpuClockInv t := by
  cases h with
  | unwrittenResult | cmdFault => exact hs.of_fault rfl rfl rfl
  | command _ hi _ _ hx =>
    exact (hs.of_same rfl rfl rfl : CpuClockInv (popProgram s)).effect hi (exec_effect hx)
  | pllLock k _ hen => exact hs.pllLock hen
  | pllReady _ hen =>
    obtain ⟨hw, k, hk, hl⟩ := pllReadyEnabled_iff.mp hen
    refine hs.applyCfg (hs.pending hw).1 fun j hj => ?_
    obtain rfl : k = j := by simpa [hk] using hj
    exact hl
  | deepWake => exact cpuClockInv_wakeReset s
  | settle _ hen | calDone _ hen | calTimeout _ hen | lightWake _ hen | restore _ hen =>
    refine hs.of_steady rfl rfl ⟨fun hp => ?_, fun hp => ?_⟩ ⟨nofun, nofun⟩ <;> simp [hp] at hen
  | _ => exact hs.of_same rfl rfl rfl

end

/-- Settles O52: the CPU takes a PLL as its source only in a switch to a locked one, and a lock falls only when a warm-up has put the CPU
on the crystal. -/
theorem everyStepKeepsCpuClockInvariant : Obligations.EveryStepKeepsCpuClockInvariant := by
  intro s t hs h
  obtain ⟨b, -, ht⟩ := step_turn h
  exact (hs.of_same rfl rfl rfl : CpuClockInv { s with bench := b }).turn ht

/-! ## The sleep registers (10_state.md R27, R28, R30, R31) -/

section
variable {s t : State}

theorem SleepRegsInv.of_same (hs : SleepRegsInv s) (hr : t.slp = s.slp) (hp : t.st.phase = s.st.phase)
    (hv : t.st.wakeTimeValid = s.st.wakeTimeValid) : SleepRegsInv t := by
  obtain ⟨hres, hawake, hhalted, hlight, hdeep, hperiod, htimer⟩ := hs
  have hh : t.hostHalted = s.hostHalted := by simp [State.hostHalted, hp]
  rw [← hr] at hres hawake hhalted hlight hdeep hperiod htimer
  rw [← hh] at hawake hhalted
  rw [← hp] at hlight hdeep htimer
  rw [← hv] at htimer
  exact ⟨hres, hawake, hhalted, hlight, hdeep, hperiod, htimer⟩

/-- Outside the sleeps the invariant asks only that all is powered, the flags are resolved and the period is not 0. -/
theorem SleepRegsInv.of_running (ht : t.hostHalted = false) (hres : t.slp.pdRes = resolve t.slp.pdCfg)
    (hoff : t.slp.domainOff = 0 ∧ t.slp.cpuHalted = false) (hperiod : t.slp.slowClkPeriod ≠ 0) : SleepRegsInv t := by
  obtain ⟨hl, hw, hd⟩ := hostHalted_eq_false_iff.mp ht
  exact ⟨hres, fun _ => hoff, by simp [ht], by simp [hl, hw], by simp [hd], hperiod, by simp [hl, hd]⟩

/-- A step outside the sleeps that leaves the sleep registers alone keeps the invariant. -/
theorem SleepRegsInv.of_running_same (hs : SleepRegsInv s) (hh : s.hostHalted = false) (ht : t.hostHalted = false)
    (hr : t.slp = s.slp) : SleepRegsInv t := by
  refine .of_running ht ?_ ?_ ?_ <;> rw [hr]
  · exact hs.resolved
  · exact hs.awake hh
  · exact hs.period_nonzero

theorem sleepRegsInv_reset : SleepRegsInv State.reset :=
  .of_running rfl (by decide) ⟨rfl, rfl⟩ Config.defaultPeriod_ne_zero

theorem sleepRegsInv_wakeReset (s : State) : SleepRegsInv (wakeReset s) :=
  .of_running rfl (show (0 : PowerFlags) = resolve 0 by decide) ⟨rfl, rfl⟩ Config.defaultPeriod_ne_zero

/-- The commit of a light sleep powers down the resolved domains (44_sleep_orchestrator.md R102). -/
theorem SleepRegsInv.commitLightSleep (hs : SleepRegsInv s) {w r m : BitVec 32}
    (hw : w.getLsbD 3 = true → s.st.wakeTimeValid = true) : SleepRegsInv (commitLightSleep w r m s) where
  resolved := hs.resolved
  awake := nofun
  halted _ := rfl
  light_domains _ := rfl
  deep_domains := nofun
  period_nonzero := hs.period_nonzero
  timer_set _ := hw

/-- The commit of a deep sleep forces the digital domain down (44_sleep_orchestrator.md R105). -/
theorem SleepRegsInv.commitDeepSleep (hs : SleepRegsInv s) {w r : BitVec 32}
    (hw : w.getLsbD 3 = true → s.st.wakeTimeValid = true) : SleepRegsInv (commitDeepSleep w r s) where
  resolved := hs.resolved
  awake := nofun
  halted _ := rfl
  light_domains h := by rcases h with h | h <;> cases h
  deep_domains _ := rfl
  period_nonzero := hs.period_nonzero
  timer_set _ := hw

/-- The wake step leaves the domains down until the restore step (44_sleep_orchestrator.md R103). -/
theorem SleepRegsInv.lightWake (hs : SleepRegsInv s) (hp : s.st.phase = .lightSleep) : SleepRegsInv (lightWakeStep s) where
  resolved := hs.resolved
  awake := nofun
  halted _ := hs.halted (hostHalted_iff.mpr (.inl hp))
  light_domains _ := hs.light_domains (.inl hp)
  deep_domains := nofun
  period_nonzero := hs.period_nonzero
  timer_set h := by rcases h with h | h <;> cases h

/-- Three commands write the sleep registers and power nothing down; the two sleep entries commit. -/
theorem SleepRegsInv.effect (hs : SleepRegsInv s) (hidle : s.st.phase = .idle) (h : Effect s t) : SleepRegsInv t := by
  have hh := hostHalted_of_idle hidle
  cases h with
  | prepare f => exact .of_running rfl rfl (hs.awake hh) hs.period_nonzero
  | wakeupTime v => exact .of_running rfl hs.resolved (hs.awake hh) hs.period_nonzero
  | postWake p hp => exact .of_running rfl hs.resolved (hs.awake hh) hp
  | lightSleep w r m _ hw => exact hs.commitLightSleep hw
  | deepSleep w r _ hw => exact hs.commitDeepSleep hw
  | _ => exact hs.of_running_same hh (by simp [State.hostHalted]) (by simp)

/-- The steps that end a sleep power everything up at its end; no other turn writes the sleep registers. -/
theorem SleepRegsInv.turn {a : Agent} (hs : SleepRegsInv s) (h : TurnEffect a s t) : SleepRegsInv t := by
  cases h with
  | unwrittenResult _ hh | cmdFault _ _ hh => exact hs.of_running_same hh rfl rfl
  | command _ hi _ _ hx =>
    exact (hs.of_same rfl rfl rfl : SleepRegsInv (popProgram s)).effect hi (exec_effect hx)
  | lightWake _ hen => exact hs.lightWake (phase_of_lightWakeEnabled hen)
  | restore => exact .of_running rfl hs.resolved ⟨rfl, rfl⟩ hs.period_nonzero
  | deepWake => exact sleepRegsInv_wakeReset s
  | settle _ hen | calDone _ hen | calTimeout _ hen | pllReady _ hen =>
    exact hs.of_running_same (hostHalted_of_hold_ends (by simp [hen])) rfl rfl
  | _ => exact hs.of_same rfl rfl rfl

end

/-- Settles O54: only the two commits power anything down, and the restore step and the reset power it up. -/
theorem everyStepKeepsSleepRegsInvariant : Obligations.EveryStepKeepsSleepRegsInvariant := by
  intro s t hs h
  obtain ⟨b, -, ht⟩ := step_turn h
  exact (hs.of_same rfl rfl rfl : SleepRegsInv { s with bench := b }).turn ht

/-! ## The five invariants at reset -/

/-- Settles O49: after reset nothing is in progress, and no fault or sleep is. -/
theorem resetMeetsEveryInvariant : Obligations.ResetMeetsEveryInvariant :=
  ⟨faultInv_reset, sleepStateInv_reset, cpuClockInv_reset, ⟨nofun, nofun, nofun, nofun, nofun⟩, sleepRegsInv_reset⟩

/-- Settles O48: each value stands in `State.reset` as R37 gives it. -/
theorem resetValuesOfTheSpec : Obligations.ResetValuesOfTheSpec := by
  refine ⟨by decide, rfl, rfl, rfl, rfl, rfl, rfl, rfl, ?_, rfl, rfl, rfl, rfl, rfl, rfl, rfl, rfl, rfl, ?_, rfl⟩
  · intro k
    cases k <;> exact ⟨rfl, rfl⟩
  · decide

/-! ## The counter (10_state.md R22) -/

/-- No command writes the counter. -/
theorem Effect.rtcCounter {s t : State} (h : Effect s t) : t.clk.rtcCounter = s.clk.rtcCounter := by
  cases h <;> simp

/-- The counter is written by its own tick and by the reset of a deep-sleep wake. -/
theorem TurnEffect.rtcCounter_cases {a : Agent} {s t : State} (h : TurnEffect a s t) :
    t.clk.rtcCounter = s.clk.rtcCounter ∨ (slowClockEnabled s = true ∧ t.clk.rtcCounter = s.clk.rtcCounter + 1) ∨
    (a = .sequencer ∧ s.st.phase = .deepSleep ∧ t = wakeReset s) := by
  cases h with
  | command _ _ _ _ hx => exact .inl (exec_effect hx).rtcCounter
  | slowClock _ hen => exact .inr (.inl ⟨hen, rfl⟩)
  | deepWake ha hen => exact .inr (.inr ⟨ha, phase_of_deepWakeEnabled hen, rfl⟩)
  | _ => exact .inl rfl

/-- Settles O55: a tick is enabled only below 2^64 - 1, so that it never wraps. -/
theorem counterIsMonotonicUntilReset : Obligations.CounterIsMonotonicUntilReset := by
  intro s t h
  obtain ⟨b, -, ht⟩ := step_turn h
  rcases ht.rtcCounter_cases with hsame | ⟨hen, htick⟩ | ⟨ha, hp, rfl⟩
  · exact .inl (.inl (congrArg _ hsame))
  · exact .inl (.inr (htick ▸ slowClock_toNat_succ hen))
  · exact .inr ⟨⟨ha, hp⟩, rfl⟩

/-! ## The word of a decoded command (30_encoding.md R50, R61) -/

theorem mem_of_lookupOpcode {op : Byte} {i : Instr} {l : List (Byte × Instr)} (h : lookupOpcode op l = some i) :
    (op, i) ∈ l := by
  induction l with
  | nil => cases h
  | cons e l ih =>
    obtain ⟨o, j⟩ := e
    simp only [lookupOpcode] at h
    split at h
    · rename_i hop
      cases h
      exact hop ▸ .head _
    · exact .tail _ (ih h)

theorem opcode_of_mem_opcodeMap : ∀ e ∈ opcodeMap, e.2.opcode = e.1 := by decide

/-- The value a host writes to issue a command is its opcode (30_encoding.md R62). -/
theorem encodeValue_toNat (i : Instr) : (encodeValue i).toNat = i.opcode.toNat := by
  cases i <;> decide

/-- A 64-bit value that is 0 above its low byte is that byte. -/
theorem toNat_eq_low_byte {v : Word} (hhigh : v.extractLsb 63 32 = 0) (hres : (v.extractLsb 31 0).extractLsb 31 8 = 0) :
    v.toNat = ((v.extractLsb 31 0).extractLsb 7 0).toNat := by
  have h1 := congrArg BitVec.toNat hhigh
  have h2 := congrArg BitVec.toNat hres
  simp [BitVec.extractLsb_toNat, Nat.shiftRight_eq_div_pow] at h1 h2 ⊢
  omega

/-- A value the decoder accepts is the value a host writes to issue that command. -/
theorem eq_encodeValue_of_decodeValue {v : Word} {i : Instr} (h : decodeValue v = .ok i) : v = encodeValue i := by
  simp only [decodeValue, decodeWord] at h
  split at h
  · cases h
  · rename_i hhigh
    split at h
    · cases h
    · rename_i hres
      split at h
      · rename_i hop
        cases h
        have hcode : i.opcode = (v.extractLsb 31 0).extractLsb 7 0 :=
          opcode_of_mem_opcodeMap _ (mem_of_lookupOpcode hop)
        apply BitVec.eq_of_toNat_eq
        rw [encodeValue_toNat, hcode]
        exact toNat_eq_low_byte (not_not.mp hhigh) (not_not.mp hres)
      · cases h

/-! ## Which commands write which registers -/

/-- The registers whose writers are few: `INITIALISED`, `SLOW_CLK_SEL`, `ACTIVE_CFG` and `SLOW_CLK_PERIOD`. -/
def guardedRegs (s : State) : Bool × SlowSrc × CpuCfg × BitVec 32 :=
  (s.st.initialised, s.clk.slowClkSel, s.cpu.activeCfg, s.slp.slowClkPeriod)

/-- From `s` to `t`, each of these registers is as it was, or `i` is one of the commands that write it. -/
structure WritesOnlyOwn (i : Instr) (s t : State) : Prop where
  initialised : t.st.initialised = s.st.initialised ∨ i = .init
  slowClkSel : t.clk.slowClkSel = s.clk.slowClkSel ∨ i = .init ∨ i = .applyDefaultClk ∨ i = .setSlowSrc
  activeCfg : t.cpu.activeCfg = s.cpu.activeCfg ∨ i = .setCpuCfg ∨ i = .switchToXtal
  slowClkPeriod : t.slp.slowClkPeriod = s.slp.slowClkPeriod ∨ i = .postWakeInit

theorem WritesOnlyOwn.of_same {i : Instr} {s t : State} (h : guardedRegs t = guardedRegs s) : WritesOnlyOwn i s t := by
  simp only [guardedRegs, Prod.mk.injEq] at h
  obtain ⟨hi, hs, ha, hp⟩ := h
  exact ⟨.inl hi, .inl hs, .inl ha, .inl hp⟩

/-- The rule of each command, without the operand checks. -/
theorem bodyOf_writesOnlyOwn (i : Instr) (s : State) : WritesOnlyOwn i s (bodyOf i s) := by
  cases i with
  | init =>
    simp only [bodyOf, initBody]
    split
    · exact .of_same rfl
    · exact ⟨.inr rfl, .inr (.inl rfl), .inl rfl, .inl rfl⟩
  | applyDefaultClk => exact ⟨.inl rfl, .inr (.inr (.inl rfl)), .inl rfl, .inl rfl⟩
  | setSlowSrc =>
    simp only [bodyOf, setSlowSrcBody]
    split
    · exact ⟨.inl rfl, .inr (.inr (.inr rfl)), .inl rfl, .inl rfl⟩
    · exact .of_same rfl
  | setCpuCfg =>
    simp only [bodyOf, setCpuCfgBody]
    repeat' split
    all_goals exact ⟨.inl rfl, .inl rfl, .inr (.inl rfl), .inl rfl⟩
  | switchToXtal => exact ⟨.inl rfl, .inl rfl, .inr (.inr rfl), .inl rfl⟩
  | postWakeInit =>
    simp only [bodyOf, postWakeInitBody]
    split
    · exact .of_same rfl
    · exact ⟨.inl rfl, .inl rfl, .inl rfl, .inr rfl⟩
  | usToCycles =>
    simp only [bodyOf, usToCyclesBody]
    split <;> exact .of_same rfl
  | cyclesToUs =>
    simp only [bodyOf, cyclesToUsBody]
    split <;> exact .of_same rfl
  | enterLightSleep =>
    simp only [bodyOf, enterLightSleepBody]
    split <;> exact .of_same rfl
  | enterDeepSleep =>
    simp only [bodyOf, enterDeepSleepBody]
    split <;> exact .of_same rfl
  | _ => exact .of_same rfl

theorem exec_writesOnlyOwn {i : Instr} {s t : State} (h : exec i s = .next t) : WritesOnlyOwn i s t := by
  rw [exec_eq_issue] at h
  rcases issue_cases h with ⟨_, rfl⟩ | ⟨_, _, rfl⟩ | ⟨_, _, rfl⟩
  · exact .of_same rfl
  · exact .of_same rfl
  · exact bodyOf_writesOnlyOwn i s

/-- A turn keeps these registers, or it is the issue of a command and writes only that command's, or the ready step of a warm-up and
writes only the record, or the reset of a deep-sleep wake. -/
theorem TurnEffect.guardedRegs_cases {a : Agent} {s t : State} (h : TurnEffect a s t) :
    guardedRegs t = guardedRegs s ∨
    (∃ i rest, a = .host ∧ s.st.phase = .idle ∧ s.bench.program = .write 0x00 8 (encodeValue i) :: rest ∧
      WritesOnlyOwn i s t) ∨
    (a = .sequencer ∧ s.st.phase = .pllWait ∧ t = pllReadyStep s) ∨
    (a = .sequencer ∧ s.st.phase = .deepSleep) := by
  cases h with
  | command ha hi hp hd hx =>
    obtain ⟨rest, hp⟩ := hp
    obtain rfl := eq_encodeValue_of_decodeValue hd
    have hw := exec_writesOnlyOwn hx
    exact .inr (.inl ⟨_, rest, ha, hi, hp, ⟨hw.initialised, hw.slowClkSel, hw.activeCfg, hw.slowClkPeriod⟩⟩)
  | pllReady ha hen => exact .inr (.inr (.inl ⟨ha, (pllReadyEnabled_iff.mp hen).1, rfl⟩))
  | deepWake ha hen => exact .inr (.inr (.inr ⟨ha, phase_of_deepWakeEnabled hen⟩))
  | pllLock => exact .inl (by simp [guardedRegs])
  | _ => exact .inl rfl

/-- No command writes an `ARG` register or clears `REFUSED`. -/
theorem Effect.arg_refused {s t : State} (h : Effect s t) :
    t.io.arg = s.io.arg ∧ t.ghost.refused = s.ghost.refused := by
  cases h <;> simp

/-- `ARG` is written by the host and by the reset of a deep-sleep wake. -/
theorem TurnEffect.arg_cases {a : Agent} {s t : State} (h : TurnEffect a s t) :
    t.io.arg = s.io.arg ∨ a = .host ∨ (a = .sequencer ∧ s.st.phase = .deepSleep) := by
  cases h with
  | writeArg _ _ ha => exact .inr (.inl ha)
  | command ha => exact .inr (.inl ha)
  | deepWake ha hen => exact .inr (.inr ⟨ha, phase_of_deepWakeEnabled hen⟩)
  | _ => exact .inl rfl

/-- `REFUSED` outlives every turn, the reset of a deep-sleep wake too (70_reset_and_hazards.md R132). -/
theorem TurnEffect.refused {a : Agent} {s t : State} (h : TurnEffect a s t) (hs : s.ghost.refused = true) :
    t.ghost.refused = true := by
  cases h with
  | refuse => rfl
  | command _ _ _ _ hx => exact (exec_effect hx).arg_refused.2.trans hs
  | _ => exact hs

/-- Settles O56: the issue of a command writes only its own registers, and no other turn but two writes any of the four. -/
theorem onlyTheseStepsWrite : Obligations.OnlyTheseStepsWrite := by
  intro s t h
  obtain ⟨b, hb, ht⟩ := step_turn h
  refine ⟨ht.arg_cases.resolve_left, ?_⟩
  rcases ht.guardedRegs_cases with hsame | ⟨i, rest, ha, hi, hp, hw⟩ | ⟨ha, hp, rfl⟩ | hdeep
  · simp only [guardedRegs, Prod.mk.injEq] at hsame
    obtain ⟨hinit, hsel, hact, hper⟩ := hsame
    exact ⟨(absurd hinit ·), (absurd hsel ·), (absurd hact ·), (absurd hper ·), ht.refused⟩
  · have hissue : Expect.Issues i s := ⟨ha, hi, rest, hb ▸ hp⟩
    refine ⟨fun hne => ?_, fun hne => ?_, fun hne => ?_, fun hne => ?_, ht.refused⟩
    · obtain rfl := hw.initialised.resolve_left hne
      exact .inl hissue
    · rcases hw.slowClkSel.resolve_left hne with rfl | rfl | rfl
      · exact .inl hissue
      · exact .inr (.inl hissue)
      · exact .inr (.inr (.inl hissue))
    · rcases hw.activeCfg.resolve_left hne with rfl | rfl
      · exact .inl hissue
      · exact .inr (.inl hissue)
    · obtain rfl := hw.slowClkPeriod.resolve_left hne
      exact .inl hissue
  · exact ⟨(absurd rfl ·), (absurd rfl ·), fun _ => .inr (.inr (.inl ⟨ha, hp⟩)), (absurd rfl ·), ht.refused⟩
  · exact ⟨fun _ => .inr hdeep, fun _ => .inr (.inr (.inr hdeep)), fun _ => .inr (.inr (.inr hdeep)), fun _ => .inr hdeep,
      ht.refused⟩

/-! ## What survives a light sleep (10_state.md R38) -/

/-- In a light sleep a turn changes clocks and inputs only, or is the wake step, or is the return. -/
theorem TurnEffect.of_light_sleep {a : Agent} {s t : State} (h : TurnEffect a s t)
    (hs : s.st.phase = .lightSleep ∨ s.st.phase = .waking) :
    (∃ clk cpu env, t = { s with clk := clk, cpu := cpu, env := env }) ∨
    (s.st.phase = .lightSleep ∧ t = lightWakeStep s) ∨ (s.st.phase = .waking ∧ t = returnFromLightSleep s) := by
  have hhalt : s.hostHalted = true := hostHalted_iff.mpr (or_assoc.mp (.inl hs))
  cases h with
  | pass | slowClock | pllLock | conditions => exact .inl ⟨_, _, _, rfl⟩
  | lightWake _ hen => exact .inr (.inl ⟨phase_of_lightWakeEnabled hen, rfl⟩)
  | restore _ hen => exact .inr (.inr ⟨phase_of_restoreEnabled hen, rfl⟩)
  | command _ hi => simp [hi] at hs
  | refuse _ hh | poll _ _ hh | read _ _ hh | unwrittenResult _ hh | writeArg _ _ _ hh | writeNothing _ hh
  | cmdFault _ _ hh => simp [hhalt] at hh
  | refClock _ hen | targetClock _ hen | settle _ hen | calDone _ hen | calTimeout _ hen | pllReady _ hen | deepWake _ hen =>
    rcases hs with hs | hs <;> simp [hs] at hen

/-- A write of register 0 leaves the others. -/
theorem getElem_set_zero_of_ne {α : Type} (v : Vector α 4) (x : α) {i : Fin 4} (hi : i ≠ 0) : (v.set 0 x)[i] = v[i] :=
  Vector.getElem_set_ne (by omega) (by omega) (by omega)

/-- Settles O57: the wake step changes `STATUS` alone, the return `RES[0]`, `STATUS` and the powered-down domains. -/
theorem lightSleepPreservesTheRest : Obligations.LightSleepPreservesTheRest := by
  intro s t h hs
  obtain ⟨b, hb, ht⟩ := step_turn h
  have hc := ht.clocksHeld (by rcases hs with hs | hs <;> simp [hs])
  have hcount : t.clk.rtcCounter = s.clk.rtcCounter ∨ t.clk.rtcCounter.toNat = s.clk.rtcCounter.toNat + 1 :=
    hc.counter.imp_right fun ⟨hen, htick⟩ => htick ▸ slowClock_toNat_succ hen
  rcases ht.of_light_sleep hs with ⟨_, _, _, rfl⟩ | ⟨hp, rfl⟩ | ⟨hp, rfl⟩
  · exact ⟨rfl, rfl, fun i _ => ⟨rfl, rfl⟩, rfl, rfl, rfl, hc.slowClkSel, hc.xtal, hcount, rfl, hc.activeCfg, hc.muxSel,
      hc.div, hc.pendingCfg, hc.plls, rfl, rfl, rfl, rfl, hb, .inl rfl⟩
  · exact ⟨rfl, rfl, fun i _ => ⟨rfl, rfl⟩, rfl, rfl, rfl, hc.slowClkSel, hc.xtal, hcount, rfl, hc.activeCfg, hc.muxSel,
      hc.div, hc.pendingCfg, hc.plls, rfl, rfl, rfl, rfl, hb, .inr (.inl ⟨hp, rfl⟩)⟩
  · exact ⟨rfl, rfl, fun i hi => ⟨getElem_set_zero_of_ne _ _ hi, getElem_set_zero_of_ne _ _ hi⟩, rfl, rfl, rfl, hc.slowClkSel,
      hc.xtal, hcount, rfl, hc.activeCfg, hc.muxSel, hc.div, hc.pendingCfg, hc.plls, rfl, rfl, rfl, rfl, hb, .inr (.inr ⟨hp, rfl⟩)⟩

/-! ## Host writes (20_memory.md R39, R44) -/

theorem windowReg_arg : ∀ i : Fin 4, windowReg (0x10 + 8 * (i.val : Int)) = some (.arg i) := by decide

theorem windowReg_res : ∀ i : Fin 4, windowReg (0x30 + 8 * (i.val : Int)) = some (.res i) := by decide

/-- Making the next access leaves the rest of the program. -/
theorem popProgram_of_program {s : State} {op : HostOp} {rest : List HostOp} (hp : s.bench.program = op :: rest) :
    popProgram s = Expect.accessed rest s := by
  simp [popProgram, Expect.accessed, hp]

/-- A host that is not halted, with the write of a register of the window next, makes that write. -/
theorem turn_host_write {s : State} {offset : Int} {v : Word} {rest : List HostOp} {r : WindowReg} (hh : s.hostHalted = false)
    (hp : s.bench.program = .write offset 8 v :: rest) (hr : windowReg offset = some r) :
    turn .host s = writeReg r v (Expect.accessed rest s) := by
  simp [turn, hostTurn, hh, hp, hostAccess, admitted, hr, popProgram_of_program hp]

/-- Settles O6: each write reaches the register at its offset. -/
theorem hostWritesOfTheWindow : Obligations.HostWritesOfTheWindow := by
  intro s rest i v hh
  refine ⟨fun hp => ?_, fun hp => ?_, fun hp => ?_⟩
  · exact turn_host_write hh hp (windowReg_arg i)
  · exact turn_host_write hh hp (r := .status) rfl
  · exact turn_host_write hh hp (windowReg_res i)

/-! ## The fields of `STATUS` (10_state.md R14) -/

/-- `STATUS` as its fields joined, highest first, at the sum of their widths. -/
def statusFields (s : State) : BitVec (40 + 8 + 4 + 4 + 1 + 3 + 1 + 1 + 1 + 1) :=
  0#40 ++ s.st.cause ++ 0#4 ++ s.st.phase.code ++ 0#1 ++ s.st.sleepState.code ++ flagBit s.st.wakeTimeValid
    ++ flagBit s.st.initialised ++ flagBit s.st.fault ++ flagBit s.busy

theorem status_getLsbD (s : State) (k : Nat) : s.status.getLsbD k = (statusFields s).getLsbD k := rfl

theorem status_extractLsb' (s : State) (start len : Nat) :
    s.status.extractLsb' start len = (statusFields s).extractLsb' start len := rfl

/-- The one-bit fields. -/
theorem status_flags (s : State) : s.status.getLsbD 0 = s.busy ∧ s.status.getLsbD 1 = s.st.fault ∧
    s.status.getLsbD 2 = s.st.initialised ∧ s.status.getLsbD 3 = s.st.wakeTimeValid ∧ s.status.getLsbD 7 = false := by
  simp only [status_getLsbD, statusFields, flagBit, BitVec.getLsbD_append]
  simp

/-- The wider fields, reserved ones among them: each is the part at its place. -/
theorem status_codes (s : State) : s.status.extractLsb' 4 3 = s.st.sleepState.code ∧
    s.status.extractLsb' 8 4 = s.st.phase.code ∧ s.status.extractLsb' 12 4 = 0 ∧
    s.status.extractLsb' 16 8 = s.st.cause ∧ s.status.extractLsb' 24 40 = 0 := by
  simp only [status_extractLsb', statusFields]
  simp (disch := decide) only [BitVec.extractLsb'_append_eq_of_le, BitVec.extractLsb'_append_eq_of_add_le]
  exact ⟨BitVec.extractLsb'_eq_self, BitVec.extractLsb'_eq_self, BitVec.extractLsb'_eq_self, BitVec.extractLsb'_eq_self,
    BitVec.extractLsb'_eq_self⟩

/-- Settles O9: the fields joined have the widths that put each in its place. -/
theorem statusRegisterFields : Obligations.StatusRegisterFields := by
  intro s
  obtain ⟨hbusy, hfault, hinit, hvalid, h7⟩ := status_flags s
  obtain ⟨hsleep, hphase, h12, hcause, h24⟩ := status_codes s
  refine ⟨?_, hfault, hinit, hvalid, ?_, h7, ?_, h12, hcause, h24⟩
  · rw [hbusy]
    simp [State.busy]
  · rw [hsleep]
    cases s.st.sleepState <;> rfl
  · rw [hphase]
    cases s.st.phase <;> rfl

/-! ## The steps of the environment -/

theorem stepIf_true {on : Bool} (f : State → State) (s : State) (h : on = true) : stepIf on f s = .next (f s) := by
  simp [stepIf, h]

/-- An agent whose step is not enabled lets its turn pass (log 2). -/
theorem stepIf_false {on : Bool} (f : State → State) (s : State) (h : on = false) : stepIf on f s = .next s := by
  simp [stepIf, h]

/-- Settles O42: each agent's turn is its step where that is enabled, and passes where it is not. -/
theorem ticksSettleLockAndConditions : Obligations.TicksSettleLockAndConditions := by
  intro s
  refine ⟨fun h => ?_, fun h => ?_, fun h => ?_, fun h => ?_, fun he hl => ?_, fun he hl => ?_, fun h => ?_, fun h => ?_,
    fun w r => rfl⟩
  · exact stepIf_true slowClockStep s (by simpa [slowClockEnabled] using h)
  · exact stepIf_false slowClockStep s (by simp [slowClockEnabled, h])
  · exact stepIf_true settleStep s (by simp [settleEnabled, h])
  · exact stepIf_false settleStep s (by simp [h])
  · exact stepIf_true (pllLockStep .pll) s (by simp [pllLockEnabled, CpuRegs.pllOf, he, hl])
  · exact stepIf_true (pllLockStep .apll) s (by simp [pllLockEnabled, CpuRegs.pllOf, he, hl])
  · exact stepIf_false (pllLockStep .pll) s (by rcases h with h | h <;> simp [pllLockEnabled, CpuRegs.pllOf, h])
  · exact stepIf_false (pllLockStep .apll) s (by rcases h with h | h <;> simp [pllLockEnabled, CpuRegs.pllOf, h])

end Sys2Proof.Machine
end

section
/-! SUPPORT. The statements of 20_memory.md about the register window: the `CMD` write with every answer it can give (R43), host reads
(R44), refused accesses (R41), and the window's place and byte image (R39, R42). -/

namespace Sys2Proof.Machine

/-! ## Which `CMD` values are commands (30_encoding.md R60) -/

/-- Every opcode outside the illegal ranges stands in the opcode map. -/
theorem exists_lookupOpcode_of_opcodeLegal {w : CmdWord} (h : CmdWord.opcodeLegal w = true) :
    ∃ i, lookupOpcode (w.extractLsb 7 0) opcodeMap = some i := by
  unfold CmdWord.opcodeLegal at h
  generalize w.extractLsb 7 0 = op at h ⊢
  rw [← Option.isSome_iff_exists]
  revert op
  decide

theorem exists_decodeValue_ok {v : Word} (hhigh : v.extractLsb 63 32 = 0)
    (hw : CmdWord.wellFormed (v.extractLsb 31 0) = true) : ∃ i, decodeValue v = .ok i := by
  obtain ⟨hres, hop⟩ := Bool.and_eq_true_iff.mp hw
  obtain ⟨i, hi⟩ := exists_lookupOpcode_of_opcodeLegal hop
  exact ⟨i, by simp [decodeValue, decodeWord, hhigh, eq_of_beq hres, hi]⟩

/-- The value a host writes to issue a command has a zero upper half and a legal command word. -/
theorem encodeValue_legal (i : Instr) : (encodeValue i).extractLsb 63 32 = 0 ∧
    CmdWord.wellFormed ((encodeValue i).extractLsb 31 0) = true := by
  cases i <;> decide

theorem exists_decodeValue_error {v : Word}
    (h : v.extractLsb 63 32 ≠ 0 ∨ CmdWord.wellFormed (v.extractLsb 31 0) = false) : ∃ e, decodeValue v = .error e := by
  cases hd : decodeValue v with
  | error e => exact ⟨e, rfl⟩
  | ok i =>
    obtain rfl := eq_encodeValue_of_decodeValue hd
    obtain ⟨hhigh, hw⟩ := encodeValue_legal i
    simp [hhigh, hw] at h

/-! ## The `CMD` write (20_memory.md R43) -/

section
variable (s : State) {v : Word}

theorem writeCmd_of_faulted (hs : s.st.phase = .faulted) : writeCmd v s = .next s := by
  simp [writeCmd, hs]

/-- A busy block is not in FAULTED (10_state.md R15), so that the write raises BUSY. -/
theorem writeCmd_of_busy (hb : s.busy = true) : writeCmd v s = .next (Expect.fault 6 s) := by
  have hf : s.st.phase ≠ .faulted := by
    intro hf
    simp [State.busy, hf] at hb
  simp only [writeCmd, hf, hb, if_true, if_false]
  rfl

theorem writeCmd_of_illegal (hidle : s.st.phase = .idle)
    (h : v.extractLsb 63 32 ≠ 0 ∨ CmdWord.wellFormed (v.extractLsb 31 0) = false) :
    writeCmd v s = .next (Expect.fault 1 s) := by
  obtain ⟨e, he⟩ := exists_decodeValue_error h
  simp [writeCmd, State.busy, hidle, he, raiseFault, FaultCode.code, Expect.fault]

theorem writeCmd_of_legal (hidle : s.st.phase = .idle) (hhigh : v.extractLsb 63 32 = 0)
    (hw : CmdWord.wellFormed (v.extractLsb 31 0) = true) : ∃ i, v = encodeValue i ∧ writeCmd v s = exec i s := by
  obtain ⟨i, hi⟩ := exists_decodeValue_ok hhigh hw
  exact ⟨i, eq_encodeValue_of_decodeValue hi, writeCmd_idle hidle hi⟩

end

/-- Settles O3: the host's turn is the write in the state with the access made, so both halves are the same four cases. -/
theorem cmdWriteFaultedBusyIllegalOrIssued : Obligations.CmdWriteFaultedBusyIllegalOrIssued := by
  intro s v
  refine ⟨writeCmd_of_faulted s, writeCmd_of_busy s, writeCmd_of_illegal s, writeCmd_of_legal s, fun rest hh hp => ?_⟩
  rw [turn_host_write_cmd hh hp, popProgram_of_program hp]
  exact ⟨writeCmd_of_faulted (Expect.accessed rest s), writeCmd_of_busy (Expect.accessed rest s),
    writeCmd_of_illegal (Expect.accessed rest s), writeCmd_of_legal (Expect.accessed rest s)⟩

/-! ## Host reads (20_memory.md R44) -/

/-- A host that is not halted, with the read of a register of the window next, makes that read. -/
theorem turn_host_read {s : State} {offset : Int} {rest : List HostOp} {r : WindowReg} (hh : s.hostHalted = false)
    (hp : s.bench.program = .read offset 8 :: rest) (hr : windowReg offset = some r) :
    turn .host s = .next (readReg r (Expect.accessed rest s)) := by
  simp [turn, hostTurn, hh, hp, hostAccess, admitted, hr, popProgram_of_program hp]

theorem hostArg_of_written {s : State} {i : Fin 4} (h : s.ghost.argW[i] = true) : hostArg i s = s.io.arg[i] :=
  if_pos h

theorem readReg_arg_of_written {s : State} {i : Fin 4} (h : s.ghost.argW[i] = true) :
    readReg (.arg i) s = busReturn s.io.arg[i] s := by
  rw [readReg, hostArg_of_written h]

theorem readReg_res_of_written {s : State} {i : Fin 4} (h : s.ghost.resW[i] = true) :
    readReg (.res i) s = busReturn s.io.res[i] s :=
  if_pos h

theorem readReg_res_of_unwritten {s : State} {i : Fin 4} (h : s.ghost.resW[i] = false) :
    readReg (.res i) s = unwrittenResultFault s :=
  if_neg (by simp [h])

/-- Settles O5: each read reaches the register at its offset; only a `RES` read looks at a write bit to choose its state. -/
theorem hostReadsOfTheWindow : Obligations.HostReadsOfTheWindow := by
  intro s rest i hh
  refine ⟨fun hp => ?_, fun hp => ?_, fun hp hw => ?_, fun hp _ => ?_, fun hp hw => ?_, fun hp hw => ?_⟩
  · exact turn_host_read hh hp (r := .cmd) rfl
  · exact turn_host_read hh hp (r := .status) rfl
  · exact (turn_host_read hh hp (windowReg_arg i)).trans (congrArg _ (readReg_arg_of_written hw))
  · exact ⟨_, turn_host_read hh hp (windowReg_arg i)⟩
  · exact (turn_host_read hh hp (windowReg_res i)).trans (congrArg _ (readReg_res_of_written hw))
  · exact (turn_host_read hh hp (windowReg_res i)).trans (congrArg _ (readReg_res_of_unwritten hw))

/-! ## Refused accesses (20_memory.md R41) -/

/-- There is no register outside the window's 0x50 bytes, and none at a misaligned offset. -/
theorem windowReg_eq_none {offset : Int} (h : offset < 0 ∨ 0x50 ≤ offset ∨ offset % 8 ≠ 0) : windowReg offset = none := by
  simp (disch := omega) only [windowReg, if_neg]

theorem admitted_eq_none {offset : Int} {bytes : Nat} (h : bytes ≠ 8 ∨ offset < 0 ∨ 0x50 ≤ offset ∨ offset % 8 ≠ 0) :
    admitted offset bytes = none := by
  rcases h with hb | ho
  · exact if_neg hb
  · simp [admitted, windowReg_eq_none ho]

/-- Settles O7: such an access reaches no register, and is refused whether it reads or writes. -/
theorem inadmissibleAccessIsRefused : Obligations.InadmissibleAccessIsRefused := by
  intro s rest offset bytes v hh hbad hp
  have hnone := admitted_eq_none hbad
  rcases hp with hp | hp <;> simp [turn, hostTurn, hh, hp, hostAccess, hnone, refuseAccess]

/-! ## The place and the byte image of the window (20_memory.md R39, R42) -/

theorem busOffset_base_add (offset : Nat) : busOffset (Config.base + offset) = offset := by
  simp [busOffset]

/-- What a register of the window shows (log 24). -/
def regImage : WindowReg → State → Word
  | .cmd, _ => 0
  | .status, s => s.status
  | .arg i, s => hostArg i s
  | .res i, s => s.io.res[i]

/-- Byte `k` of the register at offset `o` is its bits `[8k+7:8k]`. -/
theorem windowByte_reg (s : State) {o k : Nat} {r : WindowReg} (hr : windowReg o = some r) (ho : o % 8 = 0) (hk : k < 8) :
    windowByte s (o + k) = some ((regImage r s).extractLsb' (8 * k) 8) := by
  have hmod : (o + k) % 8 = k := by omega
  cases r <;> simp [windowByte, hmod, hr, regImage, BitVec.setWidth_ushiftRight_eq_extractLsb]

/-- Settles O8: the offset of an address is its distance from `BASE`, and the byte image is that of the register at each offset. -/
theorem windowAtBaseIsLittleEndian : Obligations.WindowAtBaseIsLittleEndian := by
  refine ⟨fun offset bytes => ?_, fun s i k hk => ⟨?_, ?_, fun hw => ?_, ?_, ?_⟩⟩
  · simp [memRead, memWrite, busOffset_base_add]
  · simpa [regImage] using windowByte_reg s (o := 0x00) (r := .cmd) rfl rfl hk
  · exact windowByte_reg s (r := .status) rfl rfl hk
  · rw [← hostArg_of_written hw]
    exact windowByte_reg s (o := 0x10 + 8 * i.val) (windowReg_arg i) (by omega) hk
  · exact windowByte_reg s (o := 0x30 + 8 * i.val) (windowReg_res i) (by omega) hk
  · have hnone : windowReg ((0x50 + k - (0x50 + k) % 8 : Nat) : Int) = none := windowReg_eq_none (by omega)
    simp [windowByte, hnone]

end Sys2Proof.Machine
end

section
/-! SUPPORT. The statements of 30_encoding.md: the decoder accepts exactly the 17 encoded values (R48 to R50, R60, R61), the tables
(R50, R54 to R56), the operand formats and their checks (R49, R51), and what an assembled line does (R62). -/

namespace Sys2Proof.Machine

/-! ## The decoder and the encoder (30_encoding.md R48 to R50) -/

/-- The decoder reads each of the 17 encoded values back as its command. -/
theorem decodeValue_encodeValue (i : Instr) : decodeValue (encodeValue i) = .ok i := by
  cases i <;> rfl

/-- Settles O1: what the decoder accepts is 0 above its low byte, and that byte is the opcode of the command it reads. -/
theorem decoderAcceptsExactlyEncodedWords : Obligations.DecoderAcceptsExactlyEncodedWords := by
  intro v i
  refine ⟨eq_encodeValue_of_decodeValue, fun h => ?_⟩
  rw [h, decodeValue_encodeValue]

/-- Settles O2: the decoder and the codes evaluate to the rows of the tables. -/
theorem tableWordsAndCodes : Obligations.TableWordsAndCodes := by
  unfold Obligations.TableWordsAndCodes
  decide

/-! ## What an assembled line does (30_encoding.md R62) -/

/-- `v` with each value of `ws` written at its index, in order. -/
def setEach {α : Type} (ws : List (Fin 4 × α)) (v : Vector α 4) : Vector α 4 :=
  ws.foldl (fun u w => u.set w.1 w.2) v

section
variable {α : Type} {k : Fin 4} {x : α}

@[simp] theorem setEach_cons (w : Fin 4 × α) (ws : List (Fin 4 × α)) (v : Vector α 4) :
    setEach (w :: ws) v = setEach ws (v.set w.1 w.2) := rfl

theorem getElem_setEach_of_notMem {ws : List (Fin 4 × α)} (hk : k ∉ ws.map Prod.fst) (v : Vector α 4) :
    (setEach ws v)[k] = v[k] := by
  induction ws generalizing v with
  | nil => rfl
  | cons w ws ih =>
    simp only [List.map_cons, List.mem_cons, not_or] at hk
    rw [setEach_cons, ih hk.2]
    exact Vector.getElem_set_ne _ _ fun he => hk.1 (Fin.ext he.symm)

/-- Where no index is written twice, each holds the value written there. -/
theorem getElem_setEach_of_mem {ws : List (Fin 4 × α)} (hnodup : (ws.map Prod.fst).Nodup) (hx : (k, x) ∈ ws)
    (v : Vector α 4) : (setEach ws v)[k] = x := by
  induction ws generalizing v with
  | nil => cases hx
  | cons w ws ih =>
    obtain ⟨hfresh, hnodup⟩ := List.nodup_cons.mp hnodup
    rw [setEach_cons]
    rcases List.mem_cons.mp hx with rfl | hx
    · rw [getElem_setEach_of_notMem hfresh]
      exact Vector.getElem_set_self _
    · exact ih hnodup hx _

end

/-- `s` after the host's writes `ws` of `ARG` registers, with `rest` of its program left. -/
def argsWritten (ws : List (Fin 4 × Word)) (rest : List HostOp) (s : State) : State :=
  { s with
    io := { s.io with arg := setEach ws s.io.arg }
    ghost := { s.ghost with argW := setEach (ws.map fun w => (w.1, true)) s.ghost.argW }
    bench := { s.bench with program := rest } }

/-- A run of turns goes on from the state its first turn leads to. -/
theorem runTurns_cons {a : Agent} {later : List Agent} {s t : State} (h : turn a s = .next t) :
    runTurns (a :: later) s = runTurns later t := by
  simp only [runTurns, h]

theorem runTurns_singleton (a : Agent) (s : State) : runTurns [a] s = turn a s := by
  obtain ⟨t, ht⟩ := turn_next a s
  rw [runTurns_cons ht, ht]
  rfl

/-- The host's turns for its `ARG` writes make them, one each. -/
theorem runTurns_argWrites {ws : List (Fin 4 × Word)} {rest : List HostOp} {later : List Agent} {s : State}
    (hh : s.hostHalted = false)
    (hp : s.bench.program = ws.map (fun w => HostOp.write (argOffset w.1) 8 w.2) ++ rest) :
    runTurns (List.replicate ws.length .host ++ later) s = runTurns later (argsWritten ws rest s) := by
  induction ws generalizing s with
  | nil =>
    have hs : argsWritten [] rest s = s := by
      rw [argsWritten, ← show s.bench.program = rest from hp]
      rfl
    rw [hs]
    rfl
  | cons w ws ih =>
    have hturn := turn_host_write hh hp (windowReg_arg w.1)
    simp only [List.length_cons, List.replicate_succ, List.cons_append]
    rw [runTurns_cons hturn]
    exact ih (s := writeArg w.1 w.2 (Expect.accessed _ s)) hh rfl

/-- The `ARG` writes of an assembled line: each operand with the register of its field. -/
def lineWrites (i : Instr) (operands : List Word) : List (Fin 4 × Word) :=
  ((operandFormat i).map (·.reg)).zip operands

theorem assemble_eq (i : Instr) (operands : List Word) :
    assemble i operands = (lineWrites i operands).map (fun w => HostOp.write (argOffset w.1) 8 w.2)
      ++ [.write 0x00 8 (encodeValue i), .pollStatus] := by
  simp [assemble, lineWrites, List.zip_map_left, Function.comp_def]

/-- The fields of every operand format are in `ARG[0]`, `ARG[1]` and so on (30_encoding.md R51). -/
theorem operandFormat_regs (i : Instr) :
    (operandFormat i).map (·.reg) = (List.finRange 4).take (operandFormat i).length := by
  cases i <;> rfl

section
variable {i : Instr} {operands : List Word} (hlen : operands.length = (operandFormat i).length)
include hlen

theorem length_lineWrites : (lineWrites i operands).length = operands.length := by
  simp [lineWrites, hlen]

/-- A line with one operand for each register the command reads writes the first registers in order. -/
theorem lineWrites_regs : (lineWrites i operands).map Prod.fst = (List.finRange 4).take operands.length := by
  rw [lineWrites, List.map_fst_zip (by simp [hlen]), operandFormat_regs, hlen]

theorem nodup_lineWrites_regs : ((lineWrites i operands).map Prod.fst).Nodup := by
  rw [lineWrites_regs hlen]
  exact (List.nodup_finRange 4).sublist (List.take_sublist _ _)

theorem notMem_lineWrites_regs {k : Fin 4} (hk : operands.length ≤ k.val) : k ∉ (lineWrites i operands).map Prod.fst := by
  rw [lineWrites_regs hlen, List.mem_take_iff_getElem]
  rintro ⟨j, hj, rfl⟩
  simp at hk hj
  omega

theorem mem_lineWrites {k : Fin 4} {v : Word} (hv : operands[k.val]? = some v) : (k, v) ∈ lineWrites i operands := by
  have hk : k.val < operands.length := (List.getElem?_eq_some_iff.mp hv).1
  refine List.mem_of_getElem? (i := k.val) (List.getElem?_zip_eq_some.mpr ⟨?_, hv⟩)
  rw [operandFormat_regs, ← hlen, List.getElem?_take_of_lt hk]
  simp

end

/-- Settles O11: the host's turns make the line's `ARG` writes and then its `CMD` write, which in IDLE issues the command. -/
theorem assembledLineIssuesItsCommand : Obligations.AssembledLineIssuesItsCommand := by
  intro i operands s rest hlen hidle hp
  have hh := hostHalted_of_idle hidle
  rw [assemble_eq, List.append_assoc] at hp
  have hnodupW : (((lineWrites i operands).map fun w => (w.1, true)).map Prod.fst).Nodup := by
    simpa [Function.comp_def] using nodup_lineWrites_regs hlen
  refine ⟨argsWritten (lineWrites i operands) (.pollStatus :: rest) s, ?_, rfl, rfl, rfl, rfl, rfl, rfl, rfl, rfl,
    fun k v hv => ⟨?_, ?_⟩, fun k hk => ⟨?_, ?_⟩⟩
  · calc runTurns (List.replicate (operands.length + 1) .host) s
      _ = runTurns [.host] (argsWritten (lineWrites i operands) (.write 0x00 8 (encodeValue i) :: .pollStatus :: rest) s) := by
        rw [List.replicate_succ', ← length_lineWrites hlen]
        exact runTurns_argWrites hh hp
      _ = writeCmd (encodeValue i) (argsWritten (lineWrites i operands) (.pollStatus :: rest) s) := by
        rw [runTurns_singleton]
        exact turn_host_write (r := .cmd) hh rfl rfl
      _ = exec i (argsWritten (lineWrites i operands) (.pollStatus :: rest) s) :=
        writeCmd_idle hidle (decodeValue_encodeValue i)
  · exact getElem_setEach_of_mem (nodup_lineWrites_regs hlen) (mem_lineWrites hlen hv) _
  · exact getElem_setEach_of_mem hnodupW (List.mem_map_of_mem (mem_lineWrites hlen hv)) _
  · exact getElem_setEach_of_notMem (notMem_lineWrites_regs hlen hk) _
  · exact getElem_setEach_of_notMem (by simpa [Function.comp_def] using notMem_lineWrites_regs hlen hk) _

/-! ## The operand formats (30_encoding.md R51) -/

/-- A field of any value takes every register content with its reserved bits 0. -/
@[simp] theorem accepts_any_iff (r : Fin 4) (w : Nat) (v : Word) :
    OperandField.accepts ⟨r, w, .any⟩ v = true ↔ v.toNat < 2 ^ w := by
  simp [OperandField.accepts, LegalValues.admits]

/-- The slow source codes of R54 fit their two bits. -/
@[simp] theorem accepts_slowSource_iff (r : Fin 4) (v : Word) :
    OperandField.accepts ⟨r, 2, .slowSource⟩ v = true ↔ v.toNat ≤ 2 := by
  simp only [OperandField.accepts, LegalValues.admits, Bool.and_eq_true, decide_eq_true_eq]
  omega

/-- `CAL_MAX_CYCLES` fits the 32 bits of a calibration count (00_scope.md R4). -/
@[simp] theorem accepts_calibrationCount_iff (r : Fin 4) (v : Word) :
    OperandField.accepts ⟨r, 32, .calibrationCount⟩ v = true ↔ 1 ≤ v.toNat ∧ v.toNat ≤ Config.calMaxCycles.toNat := by
  have hmax := Config.calMaxCycles.isLt
  simp only [OperandField.accepts, LegalValues.admits, Bool.and_eq_true, decide_eq_true_eq]
  omega

/-- A command's operands are legal when each register it reads passes its field. -/
theorem operandsLegal_iff (i : Instr) (s : State) :
    operandsLegal i s = true ↔ ∀ f ∈ operandFormat i, f.accepts s.io.arg[f.reg] = true :=
  List.all_eq_true

/-- Settles O12: each format names the registers the command reads, and each field is one of three kinds. -/
theorem operandFormatsOfTheTable : Obligations.OperandFormatsOfTheTable := by
  intro s
  have h64 : ∀ k : Fin 4, s.io.arg[k].toNat < 2 ^ 64 := fun k => s.io.arg[k].isLt
  refine ⟨?_, ?_, ?_, ?_, ?_, ?_, ?_, ?_, ?_, ?_, ?_, ?_, ?_, ?_⟩
  · simp [operandsWritten, operandsLegal, operandFormat]
  · simp [operandsWritten, operandFormat]
  · simp [operandsWritten, operandFormat]
  · simp [operandsWritten, operandFormat, Bool.and_assoc]
  · simp [operandsWritten, operandFormat, Bool.and_assoc]
  · simp [operandsLegal_iff, operandFormat]
  · simpa [operandsLegal_iff, operandFormat] using fun _ => h64 0
  · simp [operandsLegal_iff, operandFormat]
  · simp [operandsLegal_iff, operandFormat]
  · simp [operandsLegal_iff, operandFormat]
  · simpa [operandsLegal_iff, operandFormat] using h64 0
  · simp [operandsLegal_iff, operandFormat]
  · simp [operandsLegal_iff, operandFormat]
  · simp [operandsLegal_iff, operandFormat]

/-! ## The two checks of every issue (30_encoding.md R49) -/

/-- Settles O13: every command is issued through the shared checks. -/
theorem operandChecksComeFirst : Obligations.OperandChecksComeFirst := by
  intro i s
  rw [exec_eq_issue]
  exact ⟨issue_unwritten, issue_illegal⟩

end Sys2Proof.Machine
end

section
/-! SUPPORT. The statements of 40_time_converter.md: the two conversions as arithmetic on natural numbers (R64), their exact domains
(R68) and round trips (R67), and the two commands with each of their faults (R65, R66). -/

namespace Sys2Proof.Machine

/-! ## The conversions in natural numbers (40_time_converter.md R64) -/

theorem zext64_toNat (p : BitVec 32) : (zext64 p).toNat = p.toNat :=
  BitVec.toNat_setWidth_of_le (by decide)

theorem usToSlowCycles_toNat (us : Word) (p : BitVec 32) :
    (usToSlowCycles us p).toNat = us.toNat * 2 ^ 19 % 2 ^ 64 / p.toNat := by
  simp only [usToSlowCycles, BitVec.toNat_udiv, BitVec.toNat_shiftLeft, Nat.shiftLeft_eq, zext64_toNat]

theorem slowCyclesToUs_toNat (c : Word) (p : BitVec 32) :
    (slowCyclesToUs c p).toNat = c.toNat * p.toNat % 2 ^ 64 / 2 ^ 19 := by
  simp only [slowCyclesToUs, BitVec.toNat_ushiftRight, BitVec.toNat_mul, Nat.shiftRight_eq_div_pow, zext64_toNat]

theorem period_toNat_pos {p : BitVec 32} (hp : p ≠ 0) : 0 < p.toNat :=
  Nat.pos_of_ne_zero fun h => hp (BitVec.eq_of_toNat_eq h)

/-! ## Where a conversion is exact (40_time_converter.md R68) -/

/-- A quotient survives the truncation of its dividend exactly when nothing is truncated, for a divisor up to the modulus: what is
cut off is a multiple of the modulus, and so takes away at least one whole divisor. -/
theorem mod_div_eq_div_iff {x d m : Nat} (hd : 0 < d) (hdm : d ≤ m) : x % m / d = x / d ↔ x < m := by
  refine ⟨fun h => ?_, fun h => by rw [Nat.mod_eq_of_lt h]⟩
  by_contra hx
  have hcut : x % m + d ≤ x := calc
    x % m + d ≤ x % m + m * (x / m) :=
      Nat.add_le_add_left (hdm.trans (Nat.le_mul_of_pos_right m (Nat.div_pos (not_lt.mp hx) (hd.trans_le hdm)))) _
    _ = x := Nat.mod_add_div x m
  have hlost : x % m / d + 1 ≤ x / d := Nat.add_div_right _ hd ▸ Nat.div_le_div_right hcut
  omega

/-- Settles O40: each conversion divides a product truncated to 64 bits. -/
theorem conversionsExactOnTheirDomains : Obligations.ConversionsExactOnTheirDomains := by
  refine ⟨fun us p hp => ⟨?_, usToSlowCycles_toNat us p⟩, fun c p => ⟨?_, slowCyclesToUs_toNat c p⟩⟩
  · have hdomain : us.toNat * 2 ^ 19 < 2 ^ 64 ↔ us.toNat < 2 ^ 45 := by omega
    rw [usToSlowCycles_toNat, mod_div_eq_div_iff (period_toNat_pos hp) (by omega), hdomain]
  · rw [slowCyclesToUs_toNat, mod_div_eq_div_iff (by decide) (by decide)]

/-! ## The round trips (40_time_converter.md R67) -/

/-- Scaling by `a / b` and back by `b / a`, truncating both times, never gains, and loses less than `b / a` plus 1. -/
theorem scale_round_trip {a b : Nat} (ha : 0 < a) (hb : 0 < b) (x : Nat) :
    x * a / b * b / a ≤ x ∧ a * (x - x * a / b * b / a) < b + a := by
  have hout : x * a / b * b ≤ x * a := Nat.div_mul_le_self _ _
  have hlossOut : x * a < x * a / b * b + b := Nat.lt_div_mul_add hb
  have hlossBack : x * a / b * b < x * a / b * b / a * a + a := Nat.lt_div_mul_add ha
  refine ⟨Nat.div_le_of_le_mul (by rwa [Nat.mul_comm a]), ?_⟩
  rw [Nat.mul_comm, Nat.sub_mul]
  omega

/-- A scaled value fits where its product did, once scaled back. -/
theorem scaled_back_lt {x a b m : Nat} (h : x * a < m) : x * a / b * b < m :=
  (Nat.div_mul_le_self _ _).trans_lt h

/-- Settles O39: under the premises no product is truncated, so each round trip is one scaling and its inverse. -/
theorem conversionRoundTripBounds : Obligations.ConversionRoundTripBounds := by
  refine ⟨fun us p hp hus => ?_, fun c p hp hc => ?_, by decide, by decide⟩
  · have hshift : us.toNat * 2 ^ 19 < 2 ^ 64 := by omega
    simp only [slowCyclesToUs_toNat, usToSlowCycles_toNat, Nat.mod_eq_of_lt hshift, Nat.mod_eq_of_lt (scaled_back_lt hshift)]
    exact scale_round_trip (by decide) (period_toNat_pos hp) us.toNat
  · simp only [slowCyclesToUs_toNat, usToSlowCycles_toNat, Nat.mod_eq_of_lt hc, Nat.mod_eq_of_lt (scaled_back_lt hc)]
    exact scale_round_trip (period_toNat_pos hp) (by decide) c.toNat

/-! ## The zero period (60_exceptions.md R114, 70_reset_and_hazards.md R138) -/

/-- A zero period operand raises DIVIDE_BY_ZERO in each command that has one. -/
theorem exec_of_zero_period {i : Instr} {s : State} (hr : Expect.Ready i s) (hp : periodNonzero i s = false) :
    exec i s = .next (Expect.fault 3 s) := by
  obtain ⟨hwritten, hlegal⟩ := hr
  rw [exec_ok hwritten hlegal]
  cases i
  case usToCycles | cyclesToUs | postWakeInit => exact congrArg _ (if_pos (by simpa [periodNonzero, periodReg] using hp))
  all_goals cases hp

/-- A period register of value 0 is a zero period. -/
theorem periodNonzero_of_zero {i : Instr} {r : Fin 4} {s : State} (hr : periodReg i = some r) (h0 : s.io.arg[r] = 0) :
    periodNonzero i s = false := by
  simp [periodNonzero, hr, argField, h0]

/-- Settles O14: the period register is `ARG[1]` in the conversions and `ARG[0]` in POST_WAKE_INIT. -/
theorem zeroPeriodRaisesDivideByZero : Obligations.ZeroPeriodRaisesDivideByZero := by
  have hconv : ∀ i ∈ [Instr.usToCycles, .cyclesToUs], periodReg i = some 1 := by decide
  exact fun s => ⟨fun i hi hr h0 => exec_of_zero_period hr (periodNonzero_of_zero (hconv i hi) h0),
    fun hr h0 => exec_of_zero_period hr (periodNonzero_of_zero (r := 0) rfl h0)⟩

/-! ## The two commands (40_time_converter.md R65, R66) -/

section
variable {i : Instr} {s : State}

/-- Both conversions read `ARG[0]` and `ARG[1]` (30_encoding.md R51). -/
theorem conversion_operandsWritten (hi : i ∈ [Instr.usToCycles, .cyclesToUs]) :
    operandsWritten i s = (s.ghost.argW[0] && s.ghost.argW[1]) := by
  obtain ⟨-, -, hwritten, -⟩ := operandFormatsOfTheTable s
  exact hwritten i (List.mem_append_left [Instr.calibrate, .enterDeepSleep] hi)

/-- A conversion's operands are written and legal when both registers are written and the period fits its 32 bits. -/
theorem conversion_ready (hi : i ∈ [Instr.usToCycles, .cyclesToUs]) (h0 : s.ghost.argW[0] = true) (h1 : s.ghost.argW[1] = true)
    (hp : s.io.arg[1].toNat < 2 ^ 32) : Expect.Ready i s := by
  obtain ⟨-, -, -, -, -, -, hlegal, -⟩ := operandFormatsOfTheTable s
  exact ⟨by rw [conversion_operandsWritten hi, h0, h1]; rfl, (hlegal i hi).mpr hp⟩

theorem toNat_lt_iff_high_word_eq_zero (v : Word) : v.toNat < 2 ^ 32 ↔ v.extractLsb 63 32 = 0 := by
  have hv := v.isLt
  rw [← BitVec.toNat_inj, BitVec.extractLsb_toNat, Nat.shiftRight_eq_div_pow]
  change _ ↔ v.toNat / 2 ^ 32 % 2 ^ 32 = 0
  omega

/-- The faults of a conversion: a zero period, a reserved bit of `ARG[1]`, an operand never written. -/
theorem conversion_faults (hi : i ∈ [Instr.usToCycles, .cyclesToUs]) :
    (s.ghost.argW[0] = true → s.ghost.argW[1] = true → s.io.arg[1] = 0 → exec i s = .next (Expect.fault 3 s)) ∧
    (s.ghost.argW[0] = true → s.ghost.argW[1] = true → s.io.arg[1].extractLsb 63 32 ≠ 0 →
      exec i s = .next (Expect.fault 2 s)) ∧
    (s.ghost.argW[0] = false ∨ s.ghost.argW[1] = false → Expect.Unwritten i s) := by
  obtain ⟨hunwritten, hillegal⟩ := operandChecksComeFirst i s
  obtain ⟨-, -, -, -, -, -, hlegal, -⟩ := operandFormatsOfTheTable s
  refine ⟨fun h0 h1 hp => ?_, fun h0 h1 hp => ?_, fun h => ⟨s.st.fault, ?_⟩⟩
  · obtain ⟨hzero, -⟩ := zeroPeriodRaisesDivideByZero s
    exact hzero i hi (conversion_ready hi h0 h1 (by simp [hp])) hp
  · refine hillegal (by rw [conversion_operandsWritten hi, h0, h1]; rfl) ?_
    rwa [Bool.eq_false_iff, ne_eq, hlegal i hi, toNat_lt_iff_high_word_eq_zero]
  · exact hunwritten (by rwa [conversion_operandsWritten hi, Bool.and_eq_false_iff])

/-- A legal period operand is the low half of its register, and is its value. -/
theorem argField_of_zext64 {k : Fin 4} {p : BitVec 32} (h : s.io.arg[k] = zext64 p) : argField s k 32 = p := by
  simp [argField, h]

theorem argField_full (k : Fin 4) : argField s k 64 = s.io.arg[k] :=
  BitVec.setWidth_eq _

/-- A legal conversion does what its rule says. -/
theorem exec_conversion {p : BitVec 32} (hi : i ∈ [Instr.usToCycles, .cyclesToUs]) (h0 : s.ghost.argW[0] = true)
    (h1 : s.ghost.argW[1] = true) (hp : s.io.arg[1] = zext64 p) : exec i s = .next (bodyOf i s) := by
  obtain ⟨hwritten, hlegal⟩ := conversion_ready hi h0 h1 (by rw [hp, zext64_toNat]; exact p.isLt)
  exact exec_ok hwritten hlegal

theorem usToCyclesBody_of_ne_zero {p : BitVec 32} (hp : argField s 1 32 = p) (hp0 : p ≠ 0) :
    usToCyclesBody s = Expect.result0 (usToSlowCycles s.io.arg[0] p) s := by
  simp only [usToCyclesBody, hp, if_neg hp0, argField_full]
  rfl

theorem cyclesToUsBody_of_ne_zero {p : BitVec 32} (hp : argField s 1 32 = p) (hp0 : p ≠ 0) :
    cyclesToUsBody s = Expect.result0 (slowCyclesToUs s.io.arg[0] p) s := by
  simp only [cyclesToUsBody, hp, if_neg hp0, argField_full]
  rfl

end

/-- Settles O22: the result is the conversion as arithmetic, and the faults are those of both conversions. -/
theorem usToCyclesDividesTheShiftedDuration : Obligations.UsToCyclesDividesTheShiftedDuration := by
  refine fun s => ⟨fun us p h0 h1 hus hp hp0 => ?_, conversion_faults (by decide)⟩
  rw [exec_conversion (by decide) h0 h1 hp, bodyOf, usToCyclesBody_of_ne_zero (argField_of_zext64 hp) hp0, hus,
    ← usToSlowCycles_toNat, BitVec.ofNat_toNat, BitVec.setWidth_eq]

/-- Settles O23: the result is the conversion as arithmetic, and the faults are those of both conversions. -/
theorem cyclesToUsShiftsTheProduct : Obligations.CyclesToUsShiftsTheProduct := by
  refine fun s => ⟨fun c p h0 h1 hc hp hp0 => ?_, conversion_faults (by decide)⟩
  rw [exec_conversion (by decide) h0 h1 hp, bodyOf, cyclesToUsBody_of_ne_zero (argField_of_zext64 hp) hp0, hc,
    ← slowCyclesToUs_toNat, BitVec.ofNat_toNat, BitVec.setWidth_eq]

end Sys2Proof.Machine
end

section
/-! SUPPORT. The statements of 41_clock_source.md: the selection of the slow clock (R73 to R75), the three reads (R71, R72, R76), and
the checks of INIT (R75) and of SET_CPU_CFG (43_cpu_frequency_switcher.md R86, R88). -/

namespace Sys2Proof.Machine

/-! ## The checks of INIT and SET_CPU_CFG (60_exceptions.md R114) -/

theorem exec_init (s : State) : exec .init s = .next (initBody s) :=
  exec_ok rfl rfl

/-- `Valid(cfg)` in natural numbers (43_cpu_frequency_switcher.md R86). -/
theorem CpuCfg.valid_iff (c : CpuCfg) : c.valid = true ↔
    1 ≤ c.div.toNat ∧ c.div.toNat ≤ Config.cpuDivMax.toNat ∧ c.resMhz.toNat = c.srcMhz.toNat / c.div.toNat := by
  simp [CpuCfg.valid, ← BitVec.toNat_inj, and_assoc]

section
variable {s : State}

/-- An operand is its register's value where no bit above the field is set (30_encoding.md R52). -/
theorem argField_toNat {k : Fin 4} {w : Nat} (h : s.io.arg[k].toNat < 2 ^ w) : (argField s k w).toNat = s.io.arg[k].toNat := by
  rw [argField, BitVec.toNat_setWidth, Nat.mod_eq_of_lt h]

/-- With legal operands, the configuration SET_CPU_CFG reads is judged by the values of `ARG[1..3]`. -/
theorem cfgOperand_valid_iff (hl : operandsLegal .setCpuCfg s = true) : (cfgOperand s).valid = true ↔
    1 ≤ s.io.arg[2].toNat ∧ s.io.arg[2].toNat ≤ Config.cpuDivMax.toNat ∧
      s.io.arg[3].toNat = s.io.arg[1].toNat / s.io.arg[2].toNat := by
  obtain ⟨-, -, -, -, -, -, -, -, hcpu, -⟩ := operandFormatsOfTheTable s
  obtain ⟨-, h1, h2, h3⟩ := hcpu.mp hl
  have hsrc : (cfgOperand s).srcMhz.toNat = s.io.arg[1].toNat := argField_toNat h1
  have hdiv : (cfgOperand s).div.toNat = s.io.arg[2].toNat := argField_toNat h2
  have hres : (cfgOperand s).resMhz.toNat = s.io.arg[3].toNat := argField_toNat h3
  rw [CpuCfg.valid_iff, hsrc, hdiv, hres]

theorem setCpuCfgBody_of_preparing (h : s.st.sleepState = .preparing) : setCpuCfgBody s = raiseFault .sequenceError s :=
  if_pos h

theorem setCpuCfgBody_of_invalid (h : s.st.sleepState ≠ .preparing) (hv : (cfgOperand s).valid = false) :
    setCpuCfgBody s = raiseFault .invalidFrequencyConfig s := by
  simp only [setCpuCfgBody, if_neg h, hv, Bool.not_false, if_true]

end

/-- Settles O15: INIT faults once initialised; SET_CPU_CFG asks for the sleep state first, then for a valid configuration. -/
theorem initAndSetCpuCfgChecks : Obligations.InitAndSetCpuCfgChecks := by
  refine fun s => ⟨fun hinit => ?_, fun hready hprep => ?_, fun hready hprep hcfg => ?_⟩
  · rw [exec_init, initBody, if_pos hinit]
    rfl
  · obtain ⟨hwritten, hlegal⟩ := hready
    rw [exec_ok hwritten hlegal, bodyOf, setCpuCfgBody_of_preparing hprep]
    rfl
  · obtain ⟨hwritten, hlegal⟩ := hready
    have hinvalid : (cfgOperand s).valid = false := by
      rw [Bool.eq_false_iff, ne_eq, cfgOperand_valid_iff hlegal]
      omega
    rw [exec_ok hwritten hlegal, bodyOf, setCpuCfgBody_of_invalid hprep hinvalid]
    rfl

/-! ## The selection of the slow clock (41_clock_source.md R73 to R75) -/

@[simp] theorem SlowSrc.ofCode_code (src : SlowSrc) : SlowSrc.ofCode src.code = some src := by
  cases src <;> rfl

/-- The code of every slow clock source is a legal operand of SET_SLOW_SRC (30_encoding.md R54). -/
theorem SlowSrc.code_toNat_le (src : SlowSrc) : (zext64 src.code).toNat ≤ 2 := by
  cases src <;> decide

/-- SET_SLOW_SRC selects the source whose code `ARG[0]` holds. -/
theorem exec_setSlowSrc {s : State} {src : SlowSrc} (hw : s.ghost.argW[0] = true) (h0 : s.io.arg[0] = zext64 src.code) :
    exec .setSlowSrc s = .next (selectSlowClock src s) := by
  obtain ⟨-, hwritten, -, -, -, hlegal, -⟩ := operandFormatsOfTheTable s
  have hready : operandsWritten .setSlowSrc s = true := by rw [hwritten .setSlowSrc (by decide), hw]
  have hcode : argField s 0 2 = src.code := by simp [argField, h0]
  rw [exec_ok hready (hlegal.mpr (h0 ▸ src.code_toNat_le)), bodyOf, setSlowSrcBody, hcode, SlowSrc.ofCode_code]

/-- Settles O20: the three commands share `selectSlowClock`, and INIT marks the block initialised before it. -/
theorem slowClockCommandsSelectAndSettle : Obligations.SlowClockCommandsSelectAndSettle := by
  refine fun s => ⟨fun _ hw h0 => exec_setSlowSrc hw h0, exec_ok rfl rfl, fun hinit => ?_⟩
  rw [exec_init, initBody, hinit]
  rfl

/-! ## The three reads (41_clock_source.md R71, R72, R76) -/

/-- A command that completes with one value writes `RES[0]`, its write bit and `PHASE` (00_scope.md R6). -/
theorem completeOne_eq_result0 (v : Word) (s : State) : completeOne v s = Expect.result0 v s := rfl

/-- Settles O21: each read takes no operand and completes with the value of its register: a code for the source and MHz for the crystal. -/
theorem clockSourceReadsReturnTheirValue : Obligations.ClockSourceReadsReturnTheirValue := by
  refine fun s => ⟨?_, ?_, exec_ok rfl rfl⟩
  · rw [exec_ok rfl rfl, bodyOf, getXtalFreqBody, completeOne_eq_result0]
    cases s.clk.xtal <;> rfl
  · rw [exec_ok rfl rfl, bodyOf, getSlowSrcBody, completeOne_eq_result0]
    cases s.clk.slowClkSel <;> rfl

end Sys2Proof.Machine
end

section
/-! SUPPORT. The statements of 42_frequency_calibrator.md: the issue of CALIBRATE (R78), the ticks it counts (R79, R80), the two ends of a
calibration (R81, R82), its result (R83, R84), and the invariant of its counters. -/

namespace Sys2Proof.Machine

/-! ## The period as a quotient (42_frequency_calibrator.md R83, R84) -/

/-- The quotient of R83, before what does not fit is replaced by the sentinel. -/
def meanPeriod (x : Crystal) (acc : Word) (n : BitVec 32) : Nat :=
  acc.toNat * 2 ^ 19 / (x.mhz.toNat * n.toNat)

theorem period_toNat (x : Crystal) (acc : Word) (n : BitVec 32) :
    (period x acc n).toNat = if meanPeriod x acc n < 2 ^ 32 then meanPeriod x acc n else 0 := by
  change (if meanPeriod x acc n = 0 ∨ 2 ^ 32 ≤ meanPeriod x acc n then 0 else
    BitVec.ofNat 32 (meanPeriod x acc n)).toNat = _
  by_cases hfit : meanPeriod x acc n < 2 ^ 32
  · by_cases hzero : meanPeriod x acc n = 0
    · simp [hzero]
    · rw [if_neg (by omega), if_pos hfit, BitVec.toNat_ofNat, Nat.mod_eq_of_lt hfit]
  · rw [if_pos (.inr (not_lt.mp hfit)), if_neg hfit]
    rfl

/-- Settles O36: the crystal's frequency is one of two, and a quotient of 0 is the sentinel's value already. -/
theorem periodIsTheTruncatedMean : Obligations.PeriodIsTheTruncatedMean := by
  intro acc n x
  cases x <;> exact period_toNat _ acc n

/-- At least one reference tick for each target tick makes a mean of at least `2 ^ 19 / 40` (42_frequency_calibrator.md R84). -/
theorem le_meanPeriod {x : Crystal} {acc : Word} {n : BitVec 32} (hn : 1 ≤ n.toNat) (hacc : n.toNat ≤ acc.toNat) :
    13107 ≤ meanPeriod x acc n := by
  obtain ⟨hpos, hmax⟩ : 0 < x.mhz.toNat ∧ 13107 * x.mhz.toNat ≤ 2 ^ 19 := by cases x <;> decide
  rw [meanPeriod, Nat.le_div_iff_mul_le (Nat.mul_pos hpos hn)]
  calc 13107 * (x.mhz.toNat * n.toNat) = n.toNat * (13107 * x.mhz.toNat) := by ring
    _ ≤ acc.toNat * 2 ^ 19 := Nat.mul_le_mul hacc hmax

/-! ## The invariant of the counters (42_frequency_calibrator.md R78 to R80, R82) -/

section
variable {s t : State}

/-- Outside a calibration the invariant asks nothing. -/
theorem CalibratorInv.of_phase_ne (h : s.st.phase ≠ .calibrating) : CalibratorInv s := by
  constructor <;> exact fun hc => absurd hc h

/-- A step that keeps the calibrator and `PHASE` keeps the invariant. -/
theorem CalibratorInv.of_same (hs : CalibratorInv s) (hcal : t.cal = s.cal) (hp : t.st.phase = s.st.phase) :
    CalibratorInv t := by
  obtain ⟨hpos, hmax, htcnt, hge, hle⟩ := hs
  rw [← hp, ← hcal] at hpos hmax htcnt hge hle
  exact ⟨hpos, hmax, htcnt, hge, hle⟩

/-- During a calibration the accumulator is never behind the count (42_frequency_calibrator.md R80, R84). -/
theorem CalibratorInv.tcnt_le_acc (hs : CalibratorInv s) (hp : s.st.phase = .calibrating) :
    s.cal.tcnt.toNat ≤ s.cal.acc.toNat :=
  (Nat.le_add_right _ _).trans (hs.acc_ge hp)

/-- CALIBRATE starts a legal count from zero (42_frequency_calibrator.md R78). -/
theorem CalibratorInv.start (tgt : CalTarget) {n : BitVec 32} (hpos : 1 ≤ n.toNat)
    (hmax : n.toNat ≤ Config.calMaxCycles.toNat) :
    CalibratorInv (enterPhase .calibrating
      { s with cal := { target := tgt, n := n, tcnt := 0, acc := 0, refSeen := false } }) where
  count_pos _ := hpos
  count_max _ := hmax
  tcnt_le _ := Nat.zero_le _
  acc_ge _ := le_rfl
  acc_le _ := Nat.zero_le _

/-- A reference tick adds to the accumulator what it marks as seen, short of the budget (42_frequency_calibrator.md R79). -/
theorem CalibratorInv.refClockStep (hs : CalibratorInv s) (hc : counting s = true) : CalibratorInv (refClockStep s) := by
  obtain ⟨hp, -, hbudget⟩ := counting_iff.mp hc
  refine ⟨hs.count_pos, hs.count_max, hs.tcnt_le, fun _ => ?_, fun _ => ?_⟩ <;> rw [refClockStep_acc_toNat hc]
  · exact Nat.succ_le_succ (hs.tcnt_le_acc hp)
  · exact hbudget

/-- A target tick, short of the count, uses up the reference tick it needs (42_frequency_calibrator.md R80). -/
theorem CalibratorInv.targetClockStep (hs : CalibratorInv s) (hen : targetClockEnabled s = true) :
    CalibratorInv (targetClockStep s) := by
  obtain ⟨hc, hseen⟩ := Bool.and_eq_true_iff.mp hen
  obtain ⟨hp, hcount, -⟩ := counting_iff.mp hc
  refine ⟨hs.count_pos, hs.count_max, fun _ => ?_, fun _ => ?_, hs.acc_le⟩ <;> rw [targetClockStep_tcnt_toNat hc]
  · exact hcount
  · simpa [hseen] using hs.acc_ge hp

/-- No command but CALIBRATE ends its issue in CALIBRATING. -/
theorem Effect.calibratorInv (h : Effect s t) : CalibratorInv t := by
  cases h with
  | calibrate tgt n hpos hmax => exact .start tgt hpos hmax
  | _ => exact .of_phase_ne (by simp)

/-- A turn ticks one of the two clocks, issues a command, leaves the calibration, or touches neither it nor `PHASE`. -/
theorem CalibratorInv.turn {a : Agent} (hs : CalibratorInv s) (h : TurnEffect a s t) : CalibratorInv t := by
  cases h with
  | refClock _ hen => exact hs.refClockStep hen
  | targetClock _ hen => exact hs.targetClockStep hen
  | command _ _ _ _ hx => exact (exec_effect hx).calibratorInv
  | unwrittenResult | cmdFault | settle | calDone | calTimeout | pllReady | lightWake | restore | deepWake =>
    exact .of_phase_ne nofun
  | _ => exact hs.of_same rfl rfl

end

/-- Settles O53: a target tick is counted only against a reference tick seen since the last one, so the count stays behind the
accumulator. -/
theorem everyStepKeepsCalibratorInvariant : Obligations.EveryStepKeepsCalibratorInvariant := by
  intro s t hs h
  obtain ⟨b, -, ht⟩ := step_turn h
  exact (hs.of_same rfl rfl : CalibratorInv { s with bench := b }).turn ht

/-! ## The issue of CALIBRATE (42_frequency_calibrator.md R78) -/

theorem CalTarget.ofCode_code (tgt : CalTarget) : CalTarget.ofCode tgt.code = tgt := by
  cases tgt <;> rfl

/-- Settles O24: the target's code and the count are the two operands, and each is read back from its register. -/
theorem calibrateStartsFromZero : Obligations.CalibrateStartsFromZero := by
  intro s tgt n hw0 hw1 h0 h1 hpos hmax
  obtain ⟨-, -, hwritten, -, -, -, -, hlegal, -⟩ := operandFormatsOfTheTable s
  have hready : operandsWritten .calibrate s = true := by rw [hwritten .calibrate (by decide), hw0, hw1]; rfl
  have hcode : s.io.arg[0].toNat < 4 := by rw [h0]; cases tgt <;> decide
  have htgt : argField s 0 2 = tgt.code := by simp [argField, h0]
  rw [exec_ok hready (hlegal.mpr ⟨hcode, by rwa [h1, zext64_toNat], by rwa [h1, zext64_toNat]⟩), bodyOf, calibrateBody,
    htgt, argField_of_zext64 h1, CalTarget.ofCode_code]
  rfl

/-! ## The ticks of the two clocks (42_frequency_calibrator.md R79, R80) -/

/-- Settles O43: the reference clock ticks while the calibration counts, the target clock there after a reference tick. -/
theorem calibratorTicks : Obligations.CalibratorTicks := by
  refine fun s => ⟨fun hp hcount hbudget => ?_, fun hout => ?_⟩
  · have hc : counting s = true := counting_iff.mpr ⟨hp, hcount, hbudget⟩
    exact ⟨stepIf_true refClockStep s hc,
      fun hseen => stepIf_true targetClockStep s (by simp [targetClockEnabled, hc, hseen]),
      fun hseen => stepIf_false targetClockStep s (by simp [targetClockEnabled, hseen])⟩
  · have hc : counting s = false := by
      rw [Bool.eq_false_iff, ne_eq, counting_iff]
      rintro ⟨hp, hcount, hbudget⟩
      rcases hout with hne | hn | hacc
      · exact hne hp
      · exact hn.not_gt hcount
      · exact hacc.not_gt hbudget
    exact ⟨stepIf_false refClockStep s hc, stepIf_false targetClockStep s (by simp [targetClockEnabled, hc])⟩

/-! ## The two ends of a calibration (42_frequency_calibrator.md R81, R82) -/

/-- In CALIBRATING the sequencer has only the Done step, at the count, and the Timeout step, at the budget short of the count. -/
theorem sequencerStep?_of_calibrating {s : State} (hp : s.st.phase = .calibrating) :
    sequencerStep? s =
      if s.cal.tcnt = s.cal.n then some (calDoneStep s)
      else if s.cal.tcnt.toNat < s.cal.n.toNat ∧ s.cal.acc = Config.calTimeout s.cal.n then some (calTimeoutStep s)
      else none := by
  simp [sequencerStep?, calDoneEnabled, calTimeoutEnabled, hp, BitVec.lt_def]

/-- Settles O44: at the count the sequencer's step is Done, and short of it, at the budget, Timeout. -/
theorem calibrationDoneAndTimeout : Obligations.CalibrationDoneAndTimeout := by
  intro s hp
  have hshort : s.cal.tcnt.toNat < s.cal.n.toNat → s.cal.tcnt ≠ s.cal.n := fun hlt he => hlt.ne (congrArg _ he)
  refine ⟨fun hn => ?_, fun hlt hacc => ?_, fun hlt hacc => ?_⟩ <;> rw [turn, sequencerStep?_of_calibrating hp]
  · rw [if_pos hn]
    rfl
  · rw [if_neg (hshort hlt), if_pos ⟨hlt, hacc⟩]
    rfl
  · rw [if_neg (hshort hlt), if_neg fun h => hacc h.2]
    rfl

theorem result0_res_zero (v : Word) (s : State) : (Expect.result0 v s).io.res[0] = v :=
  Vector.getElem_set_self _

/-- Settles O41: at the count every target tick has had its reference tick, so the mean is at least 13107, and only one that does not
fit 32 bits gives 0. -/
theorem finishedCalibrationResultRange : Obligations.FinishedCalibrationResultRange := by
  intro s t hs hp hn h
  obtain ⟨hdone, -⟩ := calibrationDoneAndTimeout s hp
  cases (hdone hn).symm.trans h
  have hlow : 13107 ≤ meanPeriod s.clk.xtal s.cal.acc s.cal.n := le_meanPeriod (hs.count_pos hp) (hn ▸ hs.tcnt_le_acc hp)
  rw [result0_res_zero, ne_eq, ← BitVec.toNat_inj, zext64_toNat, period_toNat]
  by_cases hfit : meanPeriod s.clk.xtal s.cal.acc s.cal.n < 2 ^ 32
  · rw [if_pos hfit]
    exact ⟨iff_of_false (Nat.ne_zero_of_lt hlow) hfit.not_ge, fun _ => ⟨hlow, hfit⟩⟩
  · rw [if_neg hfit]
    exact ⟨iff_of_true rfl (not_lt.mp hfit), fun hne => absurd rfl hne⟩

end Sys2Proof.Machine
end

section
/-! SUPPORT. The statements of 43_cpu_frequency_switcher.md: valid configurations (R86), the two kinds of switch SET_CPU_CFG makes (R87,
R88), the end of a PLL warm-up (R90), the record (R91) and the switch to the crystal (R92). -/

namespace Sys2Proof.Machine

/-! ## Valid configurations (43_cpu_frequency_switcher.md R86) -/

/-- Settles O37: `Valid` divides words, and the quotient of two words is the quotient of their values. -/
theorem validConfigurationInvariant : Obligations.ValidConfigurationInvariant :=
  CpuCfg.valid_iff

/-! ## SET_CPU_CFG with a valid configuration (43_cpu_frequency_switcher.md R87, R88) -/

theorem CpuSrc.ofCode_code (src : CpuSrc) : CpuSrc.ofCode src.code = src := by
  cases src <;> rfl

section
variable {s : State} {cfg : CpuCfg}

/-- A valid configuration whose source needs no PLL is applied at once (43_cpu_frequency_switcher.md R88). -/
theorem setCpuCfgBody_of_no_pll (hprep : s.st.sleepState ≠ .preparing) (hv : (cfgOperand s).valid = true)
    (hk : (cfgOperand s).src.pll? = none) : setCpuCfgBody s = completeNone (applyCfg (cfgOperand s) s) := by
  simp only [setCpuCfgBody, if_neg hprep, hv, Bool.not_true, Bool.false_eq_true, if_false, hk]

/-- A valid configuration whose source needs PLL `k` starts its warm-up (43_cpu_frequency_switcher.md R88). -/
theorem setCpuCfgBody_of_pll {k : Pll} (hprep : s.st.sleepState ≠ .preparing) (hv : (cfgOperand s).valid = true)
    (hk : (cfgOperand s).src.pll? = some k) : setCpuCfgBody s = enterPhase .pllWait (startPll k (cfgOperand s) s) := by
  simp only [setCpuCfgBody, if_neg hprep, hv, Bool.not_true, Bool.false_eq_true, if_false, hk]

/-- Operand registers that hold a configuration's values are legal, and the configuration is read back from them (30_encoding.md R51,
R52). -/
theorem operandsLegal_and_cfgOperand_of_args (h0 : s.io.arg[0] = zext64 cfg.src.code) (h1 : s.io.arg[1] = zext64 cfg.srcMhz)
    (h2 : s.io.arg[2] = zext64 cfg.div) (h3 : s.io.arg[3] = zext64 cfg.resMhz) :
    operandsLegal .setCpuCfg s = true ∧ cfgOperand s = cfg := by
  obtain ⟨-, -, -, -, -, -, -, -, hlegal, -⟩ := operandFormatsOfTheTable s
  have hfit : ∀ {k : Fin 4} {v : BitVec 32}, s.io.arg[k] = zext64 v → s.io.arg[k].toNat < 2 ^ 32 :=
    fun {_ v} h => by rw [h, zext64_toNat]; exact v.isLt
  have hcode : s.io.arg[0].toNat < 4 := by rw [h0]; cases cfg.src <;> decide
  have hsrc : argField s 0 2 = cfg.src.code := by simp [argField, h0]
  refine ⟨hlegal.mpr ⟨hcode, hfit (k := 1) h1, hfit (k := 2) h2, hfit (k := 3) h3⟩, ?_⟩
  rw [cfgOperand, hsrc, CpuSrc.ofCode_code, argField_of_zext64 h1, argField_of_zext64 h2, argField_of_zext64 h3]

end

/-- Settles O25: neither the crystal nor the internal oscillator needs a PLL. -/
theorem setCpuCfgSwitchesDirectly : Obligations.SetCpuCfgSwitchesDirectly := by
  intro s cfg hw h0 h1 h2 h3 hprep hv hsrc
  obtain ⟨hl, rfl⟩ := operandsLegal_and_cfgOperand_of_args h0 h1 h2 h3
  have hk : (cfgOperand s).src.pll? = none := by rcases hsrc with h | h <;> rw [h] <;> rfl
  rw [exec_ok hw hl, bodyOf, setCpuCfgBody_of_no_pll hprep hv hk]
  rfl

/-- Settles O26: each of the two sources needs the PLL of its name. -/
theorem setCpuCfgWarmsUpThePll : Obligations.SetCpuCfgWarmsUpThePll := by
  intro s cfg hw h0 h1 h2 h3 hprep hv
  obtain ⟨hl, rfl⟩ := operandsLegal_and_cfgOperand_of_args h0 h1 h2 h3
  have hstart : ∀ k, (cfgOperand s).src.pll? = some k →
      exec .setCpuCfg s = .next (enterPhase .pllWait (startPll k (cfgOperand s) s)) :=
    fun k hk => by rw [exec_ok hw hl, bodyOf, setCpuCfgBody_of_pll hprep hv hk]
  exact ⟨fun hsrc => hstart .pll (by rw [hsrc]; rfl), fun hsrc => hstart .apll (by rw [hsrc]; rfl)⟩

/-! ## The end of a PLL warm-up (43_cpu_frequency_switcher.md R90) -/

/-- In PLL_WAIT the sequencer has only the PLL-ready step. -/
theorem sequencerStep?_of_pllWait {s : State} (hp : s.st.phase = .pllWait) :
    sequencerStep? s = if pllReadyEnabled s then some (pllReadyStep s) else none := by
  simp [sequencerStep?, hp]

/-- With PLL `k` pending, the PLL-ready step waits for the lock of `k`. -/
theorem pllReadyEnabled_of_pending {s : State} {k : Pll} (hp : s.st.phase = .pllWait) (hk : s.cpu.pendingCfg.src.pll? = some k) :
    pllReadyEnabled s = (s.cpu.pllOf k).locked := by
  rw [Bool.eq_iff_iff, pllReadyEnabled_iff]
  simp [hp, hk]

/-- Settles O45: the sequencer's one step in PLL_WAIT is enabled by the lock of the pending PLL. -/
theorem pllReadyAppliesPendingConfiguration : Obligations.PllReadyAppliesPendingConfiguration := by
  intro s k hp hk
  rw [turn, sequencerStep?_of_pllWait hp, pllReadyEnabled_of_pending hp hk]
  refine ⟨fun hlocked => ?_, fun hlocked => ?_⟩ <;> rw [hlocked] <;> rfl

/-! ## The record, and the switch to the crystal (43_cpu_frequency_switcher.md R91, R92) -/

theorem set_each_of_four {α : Type} (v : Vector α 4) (a b c d : α) :
    (((v.set 0 a).set 1 b).set 2 c).set 3 d = #v[a, b, c, d] := by
  ext i hi
  interval_cases i <;> simp

/-- A command that completes with four values writes every `RES` register (00_scope.md R6). -/
theorem complete_four (a b c d : Word) (s : State) : complete (some a) (some b) (some c) (some d) s = { s with
    io := { s.io with res := #v[a, b, c, d] }
    ghost := { s.ghost with resW := #v[true, true, true, true] }
    st := { s.st with phase := .idle } } := by
  rw [← set_each_of_four s.io.res, ← set_each_of_four s.ghost.resW]
  rfl

/-- Settles O27: the command takes no operand, and returns the source as its code. -/
theorem getCpuCfgReturnsTheRecord : Obligations.GetCpuCfgReturnsTheRecord := by
  intro s
  rw [exec_ok rfl rfl, bodyOf, getCpuCfgBody, complete_four]
  cases s.cpu.activeCfg.src <;> rfl

/-- Settles O28: the command takes no operand and asks for no sleep state; it applies the crystal's configuration. -/
theorem switchToXtalIsTheSafeState : Obligations.SwitchToXtalIsTheSafeState :=
  fun _ => exec_ok rfl rfl

end Sys2Proof.Machine
end

section
/-! SUPPORT. The statements of 44_sleep_orchestrator.md: the resolution of the power flags (R96), the wake condition (R100), the issue
of the five commands (R97 to R99, R101, R102, R105, R107), how each sleep ends (R103, R104, R106, R110), and the halted host (R109). -/

namespace Sys2Proof.Machine

/-! ## The sequencer during a sleep (44_sleep_orchestrator.md R103, R104, R106) -/

section
variable {s : State}

/-- In LIGHT_SLEEP the sequencer has only the wake step, while the wake condition is live. -/
theorem sequencerStep?_of_lightSleep (hp : s.st.phase = .lightSleep) :
    sequencerStep? s = if s.wakeLive s.slp.wakeOpt then some (lightWakeStep s) else none := by
  simp [sequencerStep?, lightWakeEnabled, hp]

/-- In WAKING the sequencer has only the restore step, at once. -/
theorem sequencerStep?_of_waking (hp : s.st.phase = .waking) : sequencerStep? s = some (returnFromLightSleep s) := by
  simp [sequencerStep?, restoreEnabled, restoreStep, hp]

/-- In DEEP_SLEEP the sequencer has only the reset, while the wake condition is live. -/
theorem sequencerStep?_of_deepSleep (hp : s.st.phase = .deepSleep) :
    sequencerStep? s = if s.wakeLive s.slp.wakeOpt then some (wakeReset s) else none := by
  simp [sequencerStep?, deepWakeEnabled, deepWakeStep, hp]

end

/-- Settles O46: the sequencer's one step in LIGHT_SLEEP waits for the wake condition, and its one step in WAKING waits for nothing. -/
theorem lightSleepWakesAndRestores : Obligations.LightSleepWakesAndRestores := by
  refine fun s => ⟨fun hp hlive => ?_, fun hp hlive => ?_, fun hp => ?_⟩
  · rw [turn, sequencerStep?_of_lightSleep hp, hlive]
    rfl
  · rw [turn, sequencerStep?_of_lightSleep hp, hlive]
    rfl
  · rw [turn, sequencerStep?_of_waking hp]
    rfl

/-! ## The wake condition (44_sleep_orchestrator.md R100) -/

/-- A word is not 0 when one of its bits is set. -/
theorem ne_zero_iff_exists_getLsbD {w : Nat} (v : BitVec w) : v ≠ 0 ↔ ∃ k, v.getLsbD k = true := by
  simpa using BitVec.zero_iff_eq_false.not

/-- `TIMER_WAKEUP` is bit 3 alone (30_encoding.md R58). -/
theorem getElem_timerWakeup {k : Nat} (hk : k < 32) : timerWakeup[k] = decide (k = 3) := by
  revert k
  decide

/-- Settles O38: the external part of the condition is not 0 exactly when some bit other than the timer's is in mask and inputs. -/
theorem wakeConditionOfAMask : Obligations.WakeConditionOfAMask := by
  intro s w
  have hbit : ∀ k, (w &&& ~~~timerWakeup &&& s.env.wakeCond).getLsbD k = true ↔
      k < 32 ∧ k ≠ 3 ∧ w.getLsbD k = true ∧ s.env.wakeCond.getLsbD k = true := by
    intro k
    by_cases hk : k < 32
    · simp [hk, getElem_timerWakeup, and_assoc, and_left_comm]
    · simp [hk]
  rw [State.wakeLive, Bool.or_eq_true, Bool.and_eq_true, bne_iff_ne, ne_zero_iff_exists_getLsbD, State.timerLive,
    decide_eq_true_eq, BitVec.le_def]
  simp only [hbit]

/-! ## A light sleep with the timer (44_sleep_orchestrator.md R103, R104, R110) -/

/-- As many turns of the slow clock as the counter has room for move it on by one each, and change nothing else (41_clock_source.md
R69). -/
theorem runTurns_slowClock {n : Nat} {later : List Agent} {s : State} (hroom : s.clk.rtcCounter.toNat + n < 2 ^ 64) :
    ∃ c : Word, c.toNat = s.clk.rtcCounter.toNat + n ∧
      runTurns (List.replicate n .slowClock ++ later) s = runTurns later { s with clk := { s.clk with rtcCounter := c } } := by
  induction n generalizing s with
  | zero => exact ⟨s.clk.rtcCounter, rfl, rfl⟩
  | succ n ih =>
    have hen : slowClockEnabled s = true := decide_eq_true (by omega)
    have hcount : (slowClockStep s).clk.rtcCounter.toNat = s.clk.rtcCounter.toNat + 1 := slowClock_toNat_succ hen
    obtain ⟨c, hc, hrun⟩ := ih (s := slowClockStep s) (by omega)
    have htick : turn .slowClock s = .next (slowClockStep s) := stepIf_true slowClockStep s hen
    exact ⟨c, by omega, (runTurns_cons htick).trans hrun⟩

/-- A light sleep whose wake condition is live ends in two turns of the sequencer (44_sleep_orchestrator.md R103, R104). -/
theorem runTurns_wakes {s : State} (hp : s.st.phase = .lightSleep) (hlive : s.wakeLive s.slp.wakeOpt = true) :
    runTurns [.sequencer, .sequencer] s = .next (returnFromLightSleep (lightWakeStep s)) := by
  obtain ⟨hwake, -, -⟩ := lightSleepWakesAndRestores s
  obtain ⟨-, -, hrestore⟩ := lightSleepWakesAndRestores (lightWakeStep s)
  exact (runTurns_cons (hwake hp hlive)).trans ((runTurns_singleton _ _).trans (hrestore rfl))

/-- Settles O58: the ticks make the timer's wake condition live, so the wake step and the restore step follow. -/
theorem timedLightSleepEnds : Obligations.TimedLightSleepEnds := by
  intro s hp htimer
  have hmax : s.clk.rtcCounter.toNat + (s.slp.wakeupTime.toNat - s.clk.rtcCounter.toNat) =
      max s.clk.rtcCounter.toNat s.slp.wakeupTime.toNat := by omega
  have hroom : s.clk.rtcCounter.toNat + (s.slp.wakeupTime.toNat - s.clk.rtcCounter.toNat) < 2 ^ 64 :=
    hmax ▸ max_lt s.clk.rtcCounter.isLt s.slp.wakeupTime.isLt
  obtain ⟨c, hc, hticks⟩ := runTurns_slowClock (later := [.sequencer, .sequencer]) hroom
  rw [hmax] at hc
  have hlive : State.wakeLive { s with clk := { s.clk with rtcCounter := c } } s.slp.wakeOpt = true :=
    (wakeConditionOfAMask _ _).mpr (.inl ⟨htimer, hc ▸ le_max_right _ _⟩)
  have hres : (s.io.res.set 0 0)[0] = (0 : Word) := Vector.getElem_set_self _
  exact ⟨_, hticks.trans (runTurns_wakes hp hlive), hres, if_pos hres, Vector.getElem_set_self _, rfl, rfl, rfl, rfl, rfl, rfl, hc⟩

/-! ## The halted host, and the poll (44_sleep_orchestrator.md R109, 30_encoding.md R62) -/

/-- A block that is not busy does not halt the host. -/
theorem hostHalted_of_not_busy {s : State} (hb : s.busy = false) : s.hostHalted = false := by
  rw [Bool.eq_false_iff, ne_eq, hostHalted_iff]
  rintro (h | h | h) <;> simp [State.busy, h] at hb

/-- A host that is not halted, with the poll next, reads `STATUS`, and leaves the poll only once `BUSY` = 0. -/
theorem turn_host_poll {s : State} {rest : List HostOp} (hh : s.hostHalted = false)
    (hp : s.bench.program = .pollStatus :: rest) :
    turn .host s = .next (busReturn s.status (if s.busy then s else Expect.accessed rest s)) := by
  simp [turn, hostTurn, hh, hp, hostAccess, popProgram_of_program hp]

/-- Settles O10: the poll leaves the host's program as it is while `BUSY` = 1. -/
theorem haltedHostWaitsAndPollRepeats : Obligations.HaltedHostWaitsAndPollRepeats := by
  refine fun s => ⟨fun hs => if_pos (hostHalted_iff.mpr hs), fun rest hh hp hb => ?_, fun rest hp hb => ?_⟩
  · rw [turn_host_poll hh hp, hb, ← hp]
    rfl
  · rw [turn_host_poll (hostHalted_of_not_busy hb) hp, hb]
    rfl

/-! ## Operands of the sleep commands (30_encoding.md R51, R52) -/

/-- A value of `w` bits in a register leaves the reserved bits above it 0. -/
theorem zext64_toNat_lt {w : Nat} (v : BitVec w) (hw : w ≤ 64) : (zext64 v).toNat < 2 ^ w := by
  rw [zext64, BitVec.toNat_setWidth_of_le hw]
  exact v.isLt

/-- The registers a sleep entry reads hold legal masks where they hold 32-bit values. -/
theorem enterLightSleep_operandsLegal {s : State} {w r m : BitVec 32} (h0 : s.io.arg[0] = zext64 w)
    (h1 : s.io.arg[1] = zext64 r) (h2 : s.io.arg[2] = zext64 m) : operandsLegal .enterLightSleep s = true := by
  obtain ⟨-, -, -, -, -, -, -, -, -, -, -, hlegal, -⟩ := operandFormatsOfTheTable s
  rw [hlegal, h0, h1, h2]
  exact ⟨zext64_toNat_lt w (by decide), zext64_toNat_lt r (by decide), zext64_toNat_lt m (by decide)⟩

theorem enterDeepSleep_operandsLegal {s : State} {w r : BitVec 32} (h0 : s.io.arg[0] = zext64 w)
    (h1 : s.io.arg[1] = zext64 r) : operandsLegal .enterDeepSleep s = true := by
  obtain ⟨-, -, -, -, -, -, -, -, -, -, -, -, hlegal, -⟩ := operandFormatsOfTheTable s
  rw [hlegal, h0, h1]
  exact ⟨zext64_toNat_lt w (by decide), zext64_toNat_lt r (by decide)⟩

/-! ## The checks and the rejection of a sleep entry (44_sleep_orchestrator.md R101, R102, R105) -/

section
variable {s : State} {w r mask : BitVec 32} {c : FaultCode} {i : Instr}

theorem sleepCheck_of_not_preparing (hs : s.st.sleepState ≠ .preparing) : sleepCheck w r s = .error .sequenceError :=
  if_pos hs

theorem sleepCheck_of_unset (hs : s.st.sleepState = .preparing) (hw : w.getLsbD 3 = true) (hv : s.st.wakeTimeValid = false) :
    sleepCheck w r s = .error .wakeupTimeUnset := by
  simp [sleepCheck, hs, hw, hv]

/-- An entry in PREPARING, with a wakeup time where its mask has the timer, answers with the matching reject conditions. -/
theorem sleepCheck_of_preparing (hs : s.st.sleepState = .preparing) (hw : w.getLsbD 3 = true → s.st.wakeTimeValid = true) :
    sleepCheck w r s = .ok (r &&& s.env.rejectCond) := by
  simpa [sleepCheck, State.rejectMask, hs] using hw

/-- Both results follow the checks: no matching condition is Woke or NoReturn, and any is Rejected (44_sleep_orchestrator.md R110). -/
theorem lightSleepResult_of_check (h : sleepCheck w r s = .ok mask) :
    lightSleepResult w r s = .ok (if mask = 0 then .woke else .rejected mask) := by
  simp only [lightSleepResult, h]

theorem deepSleepResult_of_check (h : sleepCheck w r s = .ok mask) :
    deepSleepResult w r s = .ok (if mask = 0 then .noReturn else .rejected mask) := by
  simp only [deepSleepResult, h]

/-- A failed check of either sleep entry is its fault. -/
theorem bodyOf_sleepEntry_of_error (hi : i ∈ [Instr.enterLightSleep, .enterDeepSleep])
    (h : sleepCheck (argField s 0 32) (argField s 1 32) s = .error c) : bodyOf i s = raiseFault c s := by
  simp only [List.mem_cons, List.not_mem_nil, or_false] at hi
  rcases hi with rfl | rfl
  · simp only [bodyOf, enterLightSleepBody, lightSleepResult_error.mpr h]
  · simp only [bodyOf, enterDeepSleepBody, deepSleepResult_error.mpr h]

/-- A matching condition rejects either sleep entry. -/
theorem bodyOf_sleepEntry_of_rejected (hi : i ∈ [Instr.enterLightSleep, .enterDeepSleep])
    (h : sleepCheck (argField s 0 32) (argField s 1 32) s = .ok mask) (hmask : mask ≠ 0) :
    bodyOf i s = rejectSleep mask s := by
  simp only [List.mem_cons, List.not_mem_nil, or_false] at hi
  rcases hi with rfl | rfl
  · simp only [bodyOf, enterLightSleepBody, lightSleepResult_of_check h, if_neg hmask]
  · simp only [bodyOf, enterDeepSleepBody, deepSleepResult_of_check h, if_neg hmask]

/-- A host reads a rejection's mask back from the result register (44_sleep_orchestrator.md R110). -/
theorem lightSleepReading_zext64 (hmask : mask ≠ 0) : lightSleepReading (zext64 mask) = .rejected mask := by
  have hback : (zext64 mask).setWidth 32 = mask := by simp
  have hne : zext64 mask ≠ 0 := fun h => hmask (by rw [← hback, h]; rfl)
  rw [lightSleepReading, if_neg hne, hback]

end

/-- Settles O16: the mask is `ARG[0]`, and both entries are faulted by the shared checks, before any commit. -/
theorem sleepEntryChecks : Obligations.SleepEntryChecks := by
  intro s i hi hready
  obtain ⟨hwritten, hlegal⟩ := hready
  refine ⟨fun hs => ?_, fun hs ht hv => ?_⟩
  · rw [exec_ok hwritten hlegal, bodyOf_sleepEntry_of_error hi (sleepCheck_of_not_preparing hs)]
    rfl
  · have hbit : (argField s 0 32).getLsbD 3 = true := by simpa [argField] using ht
    rw [exec_ok hwritten hlegal, bodyOf_sleepEntry_of_error hi (sleepCheck_of_unset hs hbit hv)]
    rfl

/-- Settles O33: past the checks both entries answer with the matching conditions, and any of them rejects. -/
theorem rejectedSleepReturnsTheMatchingMask : Obligations.RejectedSleepReturnsTheMatchingMask := by
  intro s w r i hi hready h0 h1 hs ht hmask
  obtain ⟨hwritten, hlegal⟩ := hready
  have hcheck : sleepCheck w r s = .ok (r &&& s.env.rejectCond) := sleepCheck_of_preparing hs ht
  refine ⟨?_, ?_, lightSleepReading_zext64 hmask, ?_⟩
  · rw [lightSleepResult_of_check hcheck, if_neg hmask]
  · rw [deepSleepResult_of_check hcheck, if_neg hmask]
  · have hw : argField s 0 32 = w := argField_of_zext64 h0
    have hr : argField s 1 32 = r := argField_of_zext64 h1
    rw [exec_ok hwritten hlegal, bodyOf_sleepEntry_of_rejected hi (by rwa [hw, hr]) hmask]
    rfl

/-! ## The commits (44_sleep_orchestrator.md R102, R105) -/

/-- Settles O31: with no matching condition the result is Woke, on which the command commits. -/
theorem enterLightSleepCommits : Obligations.EnterLightSleepCommits := by
  intro s w r m hwritten h0 h1 h2 hs ht hmask
  have hwoke : lightSleepResult w r s = .ok .woke := by
    rw [lightSleepResult_of_check (sleepCheck_of_preparing hs ht), if_pos hmask]
  refine ⟨hwoke, ?_⟩
  rw [exec_ok hwritten (enterLightSleep_operandsLegal h0 h1 h2)]
  have hw : argField s 0 32 = w := argField_of_zext64 h0
  have hr : argField s 1 32 = r := argField_of_zext64 h1
  have hm : argField s 2 32 = m := argField_of_zext64 h2
  simp only [bodyOf, enterLightSleepBody, hw, hr, hm, hwoke]
  rfl

/-- Settles O32: with no matching condition the result is NoReturn, on which the command commits. -/
theorem enterDeepSleepCommits : Obligations.EnterDeepSleepCommits := by
  intro s w r hwritten h0 h1 hs ht hmask
  have hgone : deepSleepResult w r s = .ok .noReturn := by
    rw [deepSleepResult_of_check (sleepCheck_of_preparing hs ht), if_pos hmask]
  refine ⟨hgone, ?_⟩
  rw [exec_ok hwritten (enterDeepSleep_operandsLegal h0 h1)]
  have hw : argField s 0 32 = w := argField_of_zext64 h0
  have hr : argField s 1 32 = r := argField_of_zext64 h1
  simp only [bodyOf, enterDeepSleepBody, hw, hr, hgone]
  rfl

/-! ## The commands that prepare a sleep (44_sleep_orchestrator.md R97 to R99, R107) -/

/-- A command that completes without a result writes `PHASE` alone (00_scope.md R6). -/
theorem completeNone_eq_phase (s : State) : completeNone s = Expect.phase .idle s := rfl

/-- A timing constant is its duration in slow-clock cycles, as arithmetic (40_time_converter.md R64). -/
theorem usToSlowCycles_eq_cyclesOf (us : Word) (p : BitVec 32) : usToSlowCycles us p = Expect.cyclesOf us p := by
  rw [Expect.cyclesOf, ← usToSlowCycles_toNat, BitVec.ofNat_toNat, BitVec.setWidth_eq]

theorem loadTimings_eq (s : State) : loadTimings s = { s with slp := { s.slp with
    bufWait := Expect.cyclesOf (Config.bufWaitUs s.slp.pdRes) s.slp.slowClkPeriod
    wakeupDelay := Expect.cyclesOf (Config.wakeupDelayUs s.slp.pdRes) s.slp.slowClkPeriod } } := by
  simp only [loadTimings, usToSlowCycles_eq_cyclesOf]

/-- The three commands read `ARG[0]` alone (30_encoding.md R51). -/
theorem sleepSetup_operandsWritten {i : Instr} (s : State) (hi : i ∈ [Instr.prepareSleep, .setWakeupTime, .postWakeInit]) :
    operandsWritten i s = s.ghost.argW[0] := by
  obtain ⟨-, hwritten, -⟩ := operandFormatsOfTheTable s
  exact hwritten i (List.mem_cons_of_mem Instr.setSlowSrc hi)

/-- Settles O29: the timing constants are loaded for the flags just resolved. -/
theorem prepareSleepProgramsFlagsAndTimings : Obligations.PrepareSleepProgramsFlagsAndTimings := by
  intro s f hw h0 _
  obtain ⟨-, -, -, -, -, -, -, -, -, hlegal, -⟩ := operandFormatsOfTheTable s
  have hf : argField s 0 10 = f := by simp [argField, h0]
  rw [exec_ok ((sleepSetup_operandsWritten s (by decide)).trans hw) (hlegal.mpr (h0 ▸ zext64_toNat_lt f (by decide)))]
  simp only [bodyOf, prepareSleepBody, hf, loadTimings_eq]
  rfl

/-- Settles O30: every target is legal, and the sleep state is not asked for. -/
theorem setWakeupTimeSetsTargetAndValid : Obligations.SetWakeupTimeSetsTargetAndValid := by
  intro s
  have hwritten : operandsWritten .setWakeupTime s = s.ghost.argW[0] := sleepSetup_operandsWritten s (by decide)
  obtain ⟨hunwritten, -⟩ := operandChecksComeFirst .setWakeupTime s
  obtain ⟨-, -, -, -, -, -, -, -, -, -, hlegal, -⟩ := operandFormatsOfTheTable s
  refine ⟨fun hw => ?_, fun hw => ⟨s.st.fault, hunwritten (hwritten.trans hw)⟩⟩
  rw [exec_ok (hwritten.trans hw) hlegal]
  simp only [bodyOf, setWakeupTimeBody, argField_full]
  rfl

/-- POST_WAKE_INIT with a non-zero period stores it before it loads the timing constants (44_sleep_orchestrator.md R107). -/
theorem postWakeInitBody_of_ne_zero {s : State} {p : BitVec 32} (hperiod : argField s 0 32 = p) (hp : p ≠ 0) :
    postWakeInitBody s = completeNone (loadTimings { s with slp := { s.slp with slowClkPeriod := p } }) := by
  simp only [postWakeInitBody, hperiod, if_neg hp]

/-- Settles O34: the timing constants are loaded with the period just stored. -/
theorem postWakeInitReloadsTimings : Obligations.PostWakeInitReloadsTimings := by
  intro s p hw h0 hp
  obtain ⟨-, -, -, -, -, -, -, -, -, -, -, -, -, hlegal⟩ := operandFormatsOfTheTable s
  have hperiod : argField s 0 32 = p := argField_of_zext64 h0
  rw [exec_ok ((sleepSetup_operandsWritten s (by decide)).trans hw) (hlegal.mpr (h0 ▸ zext64_toNat_lt p (by decide))),
    bodyOf, postWakeInitBody_of_ne_zero hperiod hp, loadTimings_eq,
    completeNone_eq_phase]
  rfl

/-! ## The resolution of the power flags (44_sleep_orchestrator.md R96) -/

/-- The policy bit is bit 4 alone (30_encoding.md R57). -/
theorem getElem_pdFollowCpu {k : Nat} (hk : k < 10) : pdFollowCpu[k] = decide (k = 4) := by
  revert k
  decide

/-- The two RTC memory bits are bits 2 and 3 (30_encoding.md R57). -/
theorem getElem_rtcMem {k : Nat} (hk : k < 10) : (pdRtcSlowMem ||| pdRtcFastMem)[k] = decide (k = 2 ∨ k = 3) := by
  revert k
  decide

/-- Settles O35: the policy bit is cleared always, and the RTC memory bits are set or cleared together where the policy is in force. -/
theorem resolveFollowsTheCpu : Obligations.ResolveFollowsTheCpu := by
  intro f k hk
  have hbase : (f &&& ~~~pdFollowCpu)[k] = (f[k] && decide (k ≠ 4)) := by
    rw [BitVec.getElem_and, BitVec.getElem_not, getElem_pdFollowCpu hk, decide_not]
  have hset : (f &&& ~~~pdFollowCpu ||| (pdRtcSlowMem ||| pdRtcFastMem))[k] =
      ((f[k] && decide (k ≠ 4)) || decide (k = 2 ∨ k = 3)) := by
    rw [BitVec.getElem_or, hbase, getElem_rtcMem hk]
  have hclear : (f &&& ~~~pdFollowCpu &&& ~~~(pdRtcSlowMem ||| pdRtcFastMem))[k] =
      ((f[k] && decide (k ≠ 4)) && !decide (k = 2 ∨ k = 3)) := by
    rw [BitVec.getElem_and, BitVec.getElem_not, hbase, getElem_rtcMem hk]
  simp only [resolve, BitVec.getLsbD_eq_getElem hk]
  cases hpolicy : f.getLsbD 4
  · rw [if_neg (by decide), hbase]
    grind
  · cases hdown : f.getLsbD 8 || f.getLsbD 0
    · rw [if_pos rfl, if_neg (by decide), hclear]
      grind
    · rw [if_pos rfl, if_pos rfl, hset]
      grind

/-! ## The end of a deep sleep (44_sleep_orchestrator.md R106, 70_reset_and_hazards.md R132) -/

/-- In a deep sleep a turn changes clocks and inputs only, or is the reset. -/
theorem TurnEffect.of_deep_sleep {a : Agent} {s t : State} (h : TurnEffect a s t) (hs : s.st.phase = .deepSleep) :
    (∃ clk cpu env, t = { s with clk := clk, cpu := cpu, env := env }) ∨
    (a = .sequencer ∧ s.wakeLive s.slp.wakeOpt = true ∧ t = wakeReset s) := by
  have hhalt : s.hostHalted = true := hostHalted_iff.mpr (.inr (.inr hs))
  cases h with
  | pass | slowClock | pllLock | conditions => exact .inl ⟨_, _, _, rfl⟩
  | deepWake ha hen => exact .inr ⟨ha, by simpa [deepWakeEnabled, hs] using hen, rfl⟩
  | command _ hi => simp [hi] at hs
  | refuse _ hh | poll _ _ hh | read _ _ hh | unwrittenResult _ hh | writeArg _ _ _ hh | writeNothing _ hh
  | cmdFault _ _ hh => simp [hhalt] at hh
  | refClock _ hen | targetClock _ hen | settle _ hen | calDone _ hen | calTimeout _ hen | pllReady _ hen | lightWake _ hen
  | restore _ hen => simp [hs] at hen

/-- The reset of a deep-sleep wake ends a run in which no access was refused (60_exceptions.md R129). -/
theorem wakeReset_runEnded {s : State} (hr : s.ghost.refused = false) : (wakeReset s).runEnded = true := by
  simp [State.runEnded, State.good, State.reset, hr]

/-- Settles O47: the reset is the only turn that ends the sleep, and gives every specified element the value it has after a cold
boot. -/
theorem deepSleepWakeResetsTheBlock : Obligations.DeepSleepWakeResetsTheBlock := by
  intro s hs
  refine ⟨fun hlive => ?_, fun hlive => ⟨wakeReset s, ?_, rfl, rfl, rfl, rfl, rfl, rfl, rfl, fun k => ?_, rfl, rfl, rfl, rfl, rfl,
    rfl, rfl, rfl, ?_, rfl, rfl, rfl, rfl, wakeReset_runEnded⟩, fun a t h hno => ?_⟩
  · rw [turn, sequencerStep?_of_deepSleep hs, hlive]
    rfl
  · rw [turn, sequencerStep?_of_deepSleep hs, hlive]
    rfl
  · cases k <;> exact ⟨rfl, rfl⟩
  · exact (by decide : ∀ i : Fin 4, State.reset.ghost.argW[i] = false ∧ State.reset.ghost.resW[i] = false)
  · rcases (turn_effect h).of_deep_sleep hs with ⟨_, _, _, rfl⟩ | ⟨rfl, hlive, -⟩
    · exact ⟨hs, rfl, rfl, rfl⟩
    · simp [hlive] at hno

end Sys2Proof.Machine
end

section
/-! SUPPORT. The statements of 60_exceptions.md: a command's fault is precise (R115), and a host that keeps its duties raises no fault
that they rule out (R128). -/

namespace Sys2Proof.Machine

/-! ## The entry of a fault (60_exceptions.md R113, R115) -/

/-- A command that leads to FAULTED has entered a fault or the model fault of an unwritten operand: every other effect leads to
another phase. -/
theorem Effect.of_faulted {s t : State} (h : Effect s t) (ht : t.st.phase = .faulted) :
    t = unwrittenOperandFault s ∨ ∃ c, t = raiseFault c s := by
  cases h with
  | unwritten => exact .inl rfl
  | fault c => exact .inr ⟨c, rfl⟩
  | _ => simp at ht

/-- Settles O17: the two fault entries write `STATUS` fields and a mark alone. -/
theorem commandFaultsArePrecise : Obligations.CommandFaultsArePrecise := by
  intro i s t h ht
  rcases (exec_effect h).of_faulted ht with rfl | ⟨c, rfl⟩ <;>
    exact ⟨rfl, rfl, rfl, rfl, rfl, rfl, rfl, rfl, rfl, rfl, rfl, rfl, rfl⟩

/-! ## What a dutiful host can come to (60_exceptions.md R114, R128) -/

/-- The faults that a host's duties for one access leave possible: an illegal operand, and the checks of the commands' own rules but for
the zero period. -/
def dutifulFaults : List FaultCode :=
  [.illegalOperand, .invalidFrequencyConfig, .sequenceError, .wakeupTimeUnset, .initRepeated]

/-- A good state, or a good state in which one of `dutifulFaults` has just been raised. -/
inductive DutifulEnd : State → Prop
  | good {t : State} (ht : t.good = true) : DutifulEnd t
  | fault {s : State} {c : FaultCode} (hs : s.good = true) (hc : c ∈ dutifulFaults) : DutifulEnd (raiseFault c s)

/-- No fault, no mark and no refusal (60_exceptions.md R113). -/
theorem State.good_iff {s : State} : s.good = true ↔ s.st.fault = false ∧ s.ghost.unwrittenOperand = false ∧
    s.ghost.unwrittenResult = false ∧ s.ghost.refused = false := by
  simp [State.good, and_assoc]

theorem dutifulFaults_code : ∀ c ∈ dutifulFaults, c.code = 2 ∨ c.code = 4 ∨ c.code = 5 ∨ c.code = 7 ∨ c.code = 8 := by
  decide

/-- In such an end no mark and no refusal is set, and a fault has one of the codes of `dutifulFaults`. -/
theorem DutifulEnd.no_mark_and_cause {t : State} (h : DutifulEnd t) :
    t.ghost.unwrittenOperand = false ∧ t.ghost.unwrittenResult = false ∧ t.ghost.refused = false ∧
    (t.st.fault = true → t.st.cause = 2 ∨ t.st.cause = 4 ∨ t.st.cause = 5 ∨ t.st.cause = 7 ∨ t.st.cause = 8) := by
  cases h with
  | good ht =>
    obtain ⟨hf, hop, hres, href⟩ := State.good_iff.mp ht
    exact ⟨hop, hres, href, fun h => absurd h (by simp [hf])⟩
  | fault hs hc =>
    obtain ⟨hf, hop, hres, href⟩ := State.good_iff.mp hs
    exact ⟨hop, hres, href, fun _ => by simpa [hf] using dutifulFaults_code _ hc⟩

section
variable {s t : State} {i : Instr} {op : HostOp}

/-- A failed check of a sleep entry is one of `dutifulFaults`. -/
theorem sleepCheck_error_mem {w r : BitVec 32} {c : FaultCode} (h : sleepCheck w r s = .error c) : c ∈ dutifulFaults := by
  rcases sleepCheck_error h with ⟨rfl, -⟩ | ⟨rfl, -⟩ <;> decide

/-- The rule of a command whose period operand is not 0: it completes or is held, with no mark and no fault, or fails a check that no
duty rules out. -/
theorem bodyOf_dutifulEnd (hs : s.good = true) (hp : periodNonzero i s = true) : DutifulEnd (bodyOf i s) := by
  cases i with
  | init =>
    simp only [bodyOf, initBody]
    split
    · exact .fault hs (by decide)
    · exact .good hs
  | setSlowSrc =>
    simp only [bodyOf, setSlowSrcBody]
    split
    · exact .good hs
    · exact .fault hs (by decide)
  | setCpuCfg =>
    simp only [bodyOf, setCpuCfgBody]
    split
    · exact .fault hs (by decide)
    · split
      · exact .fault hs (by decide)
      · split <;> exact .good hs
  | usToCycles | cyclesToUs =>
    have hne : argField s 1 32 ≠ 0 := by simpa [periodNonzero, periodReg] using hp
    simp only [bodyOf, usToCyclesBody, cyclesToUsBody, if_neg hne]
    exact .good hs
  | postWakeInit =>
    have hne : argField s 0 32 ≠ 0 := by simpa [periodNonzero, periodReg] using hp
    simp only [bodyOf, postWakeInitBody, if_neg hne]
    exact .good hs
  | enterLightSleep =>
    simp only [bodyOf, enterLightSleepBody]
    split
    · exact .fault hs (sleepCheck_error_mem (lightSleepResult_error.mp ‹_›))
    all_goals exact .good hs
  | enterDeepSleep =>
    simp only [bodyOf, enterDeepSleepBody]
    split
    · exact .fault hs (sleepCheck_error_mem (deepSleepResult_error.mp ‹_›))
    all_goals exact .good hs
  | _ => exact .good hs

/-- The issue of a command with its operands written and no zero period. -/
theorem exec_dutifulEnd (hs : s.good = true) (hw : operandsWritten i s = true) (hp : periodNonzero i s = true)
    (h : exec i s = .next t) : DutifulEnd t := by
  rw [exec_eq_issue] at h
  rcases issue_cases h with ⟨hno, -⟩ | ⟨-, -, rfl⟩ | ⟨-, -, rfl⟩
  · simp [hw] at hno
  · exact .fault hs (by decide)
  · exact bodyOf_dutifulEnd hs hp

/-- A dutiful read reaches a register, and a `RES` register only once it has been written. -/
theorem hostDuty_read {offset : Int} {bytes : Nat} (h : hostDuty (.read offset bytes) s = true) :
    ∃ r, admitted offset bytes = some r ∧ ∀ k, r = .res k → s.ghost.resW[k] = true := by
  cases hr : admitted offset bytes with
  | none => simp [hostDuty, hr] at h
  | some r =>
    refine ⟨r, rfl, ?_⟩
    rintro k rfl
    obtain ⟨hw, -⟩ : s.ghost.resW[k] = true ∧ _ := by simpa only [hostDuty, hr, Bool.and_eq_true] using h
    exact hw

/-- A dutiful write reaches a register, and `CMD` only with the word of a command that the block can take. -/
theorem hostDuty_write {offset : Int} {bytes : Nat} {v : Word} (h : hostDuty (.write offset bytes v) s = true) :
    ∃ r, admitted offset bytes = some r ∧ (r = .cmd → s.busy = false ∧
      ∃ i, decodeValue v = .ok i ∧ operandsWritten i s = true ∧ periodNonzero i s = true) := by
  cases hr : admitted offset bytes with
  | none => simp [hostDuty, hr] at h
  | some r =>
    refine ⟨r, rfl, ?_⟩
    rintro rfl
    cases hd : decodeValue v with
    | error e => simp [hostDuty, hr, hd] at h
    | ok i =>
      simp only [hostDuty, hr, hd, Bool.and_eq_true, Bool.not_eq_true'] at h
      obtain ⟨hb, hw, hp⟩ := h
      exact ⟨hb, i, rfl, hw, hp⟩

/-- A read leaves a good state good, unless it is of an unwritten `RES` register. -/
theorem readReg_good {r : WindowReg} (hs : s.good = true) (hr : ∀ k, r = .res k → s.ghost.resW[k] = true) :
    (readReg r s).good = true := by
  cases r with
  | res k =>
    rw [readReg_res_of_written (hr k rfl)]
    exact hs
  | _ => exact hs

/-- A `CMD` write of a command's word while `BUSY` = 0 is discarded in FAULTED, and the issue of the command in IDLE. -/
theorem writeCmd_dutifulEnd {v : Word} (hs : s.good = true) (hb : s.busy = false) (hd : decodeValue v = .ok i)
    (hw : operandsWritten i s = true) (hp : periodNonzero i s = true) (h : writeCmd v s = .next t) : DutifulEnd t := by
  by_cases hf : s.st.phase = .faulted
  · rw [writeCmd_of_faulted s hf] at h
    cases h
    exact .good hs
  · rw [writeCmd_idle (phase_idle_of_not_busy hb hf) hd] at h
    exact exec_dutifulEnd hs hw hp h

/-- One access of the host within its duties. -/
theorem hostAccess_dutifulEnd (hs : s.good = true) (hduty : hostDuty op s = true) (h : hostAccess op s = .next t) :
    DutifulEnd t := by
  have hpop : (popProgram s).good = true := hs
  cases op with
  | read offset bytes =>
    obtain ⟨r, hr, hres⟩ := hostDuty_read hduty
    simp only [hostAccess, hr] at h
    cases h
    exact .good (readReg_good hpop hres)
  | write offset bytes v =>
    obtain ⟨r, hr, hcmd⟩ := hostDuty_write hduty
    simp only [hostAccess, hr] at h
    cases r with
    | cmd =>
      obtain ⟨hb, i, hd, hw, hp⟩ := hcmd rfl
      exact writeCmd_dutifulEnd (s := popProgram s) hpop hb hd hw hp h
    | _ =>
      cases h
      exact .good hs
  | pollStatus =>
    cases h
    split <;> exact .good hs

end

/-- Settles O19: the host's turn is its next access, or passes while the host is halted. -/
theorem dutifulHostRaisesOnlyOwnChecks : Obligations.DutifulHostRaisesOnlyOwnChecks := by
  intro s t op rest hs hp hduty h
  refine DutifulEnd.no_mark_and_cause ?_
  simp only [turn, hostTurn, hp] at h
  split at h
  · cases h
    exact .good hs
  · exact hostAccess_dutifulEnd hs hduty h

end Sys2Proof.Machine
end
